-- ==== Sys2Proof/Word.lean ====
section
/-! DEFINITION. The word type (00_scope.md R9: every register and port value is a 32-bit word). -/

namespace Sys2Proof

/-- A data word, register or port value (R9; the parameter `W` is 32 in every well-formed instance, R6).
`toInt` is its `sint32` reading, `toNat` its `uint32` reading. -/
abbrev Word := BitVec 32

/-- An 8-bit word address of the register space (20_memory.md R42). -/
abbrev RegAddr := BitVec 8

/-- A transmitter frame of 25 bits (30_encoding.md R66). -/
abbrev Frame := BitVec 25

end Sys2Proof
end

