-- ==== Sys2Proof/Config.lean ====
section
/-! DEFINITION. What is fixed for one model instance: the constants of the source (00_scope.md R7), the elaboration
parameters (R5) with their reference values, and the two values the spec leaves OPEN. -/

namespace Sys2Proof

/-- The three axes (R7), index Roll 0, Pitch 1, Yaw 2 (30_encoding.md R65). -/
inductive Axis where
  | roll | pitch | yaw
deriving DecidableEq, Repr

/-- The three gain terms, Kp 0, Ki 1, Kd 2 (10_state.md R30). -/
inductive GainTerm where
  | kp | ki | kd
deriving DecidableEq, Repr

/-- The three flight modes (10_state.md R19). -/
inductive FlightMode where
  | level | semiAcro | fullAcro
deriving DecidableEq, Repr

/-- One value for each axis. -/
structure Axes (α : Type) where
  roll : α
  pitch : α
  yaw : α
deriving DecidableEq, Repr

/-- All three axes at one value. -/
def Axes.const {α : Type} (a : α) : Axes α := ⟨a, a, a⟩

/-- One value for each of the four motors (R7). -/
structure Quad (α : Type) where
  m0 : α
  m1 : α
  m2 : α
  m3 : α
deriving DecidableEq, Repr

/-- The elaboration parameters of R5, the two OPEN ones among them. They are integers: thresholds and bounds are raw
fixed-point numbers. An instance is usable when `Params.wf` (R6) holds. -/
structure Params where
  /-- `W`, the width of every word. -/
  w : Nat
  /-- `SHIFT`, the global fixed-point shift. -/
  shift : Nat
  /-- `LIMIT`, the integrator clamp bound. -/
  limit : Int
  /-- `LOW_THRESHOLD`, on the raw throttle stick. -/
  lowThreshold : Int
  /-- `EXTREME`, beyond which a stick is at an extreme. -/
  extreme : Int
  /-- `GESTURE_T`, the move-high threshold; move-low is its negation. -/
  gestureT : Int
  /-- `GESTURE_AXIS`, the stick the gesture watches. -/
  gestureAxis : Axis
  /-- `GESTURE_N`, the crossings that fire the gesture. -/
  gestureN : Nat
  /-- `GESTURE_TIMEOUT_US`. -/
  gestureTimeoutUs : Nat
  /-- `DT_FACTOR`. -/
  dtFactor : Nat
  /-- `DT_MAX`. -/
  dtMax : Int
  /-- `KI_SHIFT`. -/
  kiShift : Nat
  /-- `MIN_MOTOR_OUTPUT`. -/
  minMotorOutput : Int
  /-- `DECAY_ALPHA`. -/
  decayAlpha : Int
  /-- `FRAME_TABLE`, one frame per channel index. -/
  frameTable : List Frame
  /-- `T_DWELL` (OPEN), the minimum clock-high and clock-low time, in whatever unit (log 7). -/
  tDwell : Nat
  /-- `N_AUX` (OPEN), the number of auxiliary stick channels (log 8). -/
  nAux : Nat
deriving DecidableEq, Repr

/-- The table of 46_freq_encoder.md R123, column `frame`, as printed there: channels 0 to 30. -/
def Config.printedFrameTable : List Frame :=
  [0x11543E2, 0x1124FE2, 0x1178022, 0x1118C22, 0x1148222, 0x1130E22, 0x1160122, 0x1100D22] ++
  [0x115FD22, 0x112F322, 0x1177F22, 0x11170A2, 0x1147CA2, 0x113B2A2, 0x116BEA2, 0x110B1A2] ++
  [0x1153DA2, 0x11233A2, 0x117DFA2, 0x111D062, 0x114DC62, 0x1135262, 0x1165E62, 0x1105162] ++
  [0x1159D62, 0x1129362, 0x1171F62, 0x11110E2, 0x1141CE2, 0x113E2E2, 0x116EEE2]

/-- The reference values of R5, for any value of the two OPEN parameters. -/
def Params.referenceWith (tDwell nAux : Nat) : Params where
  w := 32
  shift := 16
  limit := 65536
  lowThreshold := -49152
  extreme := 49152
  gestureT := 32768
  gestureAxis := .roll
  gestureN := 6
  gestureTimeoutUs := 1000000
  dtFactor := 4295
  dtMax := 1310
  kiShift := 4
  minMotorOutput := 4096
  decayAlpha := 8192
  frameTable := Config.printedFrameTable
  tDwell := tDwell
  nAux := nAux

/-- The `T_DWELL` of the reference instance: R5 gives no value, so it has none here either (log 7). -/
opaque Config.tDwell : Nat

/-- The `N_AUX` of the reference instance: R5 gives no value, so it has none here either (log 8). -/
opaque Config.nAux : Nat

/-- The reference instance. -/
def Params.reference : Params := Params.referenceWith Config.tDwell Config.nAux

end Sys2Proof
end

