-- ==== Sys2Proof/Machine/Arith.lean ====
section
/-! DEFINITION. The arithmetic primitives of 00_scope.md R10, on mathematical integers (R9), and the parameters derived
from `SHIFT` (R5). -/

namespace Sys2Proof.Machine

/-- `wrap32` (R10): reduce an integer to `sint32`. -/
def wrap32 (v : Int) : Int := (v + 2147483648) % 4294967296 - 2147483648

/-- `wrapu32` (R10): reduce an integer to `uint32`. -/
def wrapu32 (v : Int) : Int := v % 4294967296

/-- `asr` (R10): arithmetic shift right, toward minus infinity. -/
def asr (v : Int) (k : Nat) : Int := v / ((2 ^ k : Nat) : Int)

/-- `clamp` (R10). -/
def clamp (v lo hi : Int) : Int := if v < lo then lo else if hi < v then hi else v

/-- `rev_N` (R10): bit `i` of the result is bit `N - 1 - i` of `v`. -/
def rev : Nat → Nat → Nat
  | 0, _ => 0
  | n + 1, v => (v % 2) * 2 ^ n + rev n (v / 2)

/-- The 32-bit word that holds an integer (R9: a register keeps 32 bits). -/
def toWord (v : Int) : Word := BitVec.ofInt 32 v

/-- `ONE = 2^SHIFT` (R5). -/
def one (p : Params) : Int := ((2 ^ p.shift : Nat) : Int)

/-- `HALF = 2^(SHIFT-1)` (R5). -/
def half (p : Params) : Int := ((2 ^ (p.shift - 1) : Nat) : Int)

/-- `fpmul` (R10): exact product, shifted right by `SHIFT`, reduced to 32 bits. -/
def fpmul (p : Params) (a b : Int) : Int := wrap32 (asr (a * b) p.shift)

end Sys2Proof.Machine
end

