-- ==== Sys2Proof/Machine/Frame.lean ====
section
/-! DEFINITION. The channels and the closed-form frame of the frequency encoder (46_freq_encoder.md R119 to R122). -/

namespace Sys2Proof.Machine

/-- A valid channel (R119), on the `uint32` reading of the request. -/
def validFreq (f : Nat) : Bool := 5725 ≤ f && f ≤ 5875 && (f - 5725) % 5 == 0

/-- The channel index `n` of a valid frequency (R119). -/
def channelIndex (f : Nat) : Nat := (f - 5725) / 5

/-- The frequency of channel `n` (R7: 5725 MHz and up in 5 MHz steps). -/
def channelFreq (n : Nat) : Nat := 5725 + 5 * n

/-- Field A of channel `n` (R120): the mathematical residue of `21 - 3 n` modulo 128. -/
def fieldA (n : Nat) : Nat := ((21 - 3 * (n : Int)) % 128).toNat

/-- `B_raw` of channel `n` (R121), branching at 5765 MHz. -/
def fieldBRaw (n : Nat) : Nat :=
  if channelFreq n < 5765 then 60 + 2 * n + 1 - channelFreq n % 2
  else 60 + 2 * (n - 1) + channelFreq n % 2

/-- Field B of channel `n` (R121): the low 6 bits of `B_raw`. -/
def fieldB (n : Nat) : Nat := fieldBRaw n % 64

/-- The preamble, and the trailer identical to it (30_encoding.md R66). -/
def framePreamble : BitVec 6 := 0b100010#6

/-- The closed-form frame of channel `n` (R122): preamble, reversed A, reversed B, trailer. -/
def frameOf (n : Nat) : Frame :=
  framePreamble ++ BitVec.ofNat 7 (rev 7 (fieldA n)) ++ BitVec.ofNat 6 (rev 6 (fieldB n)) ++ framePreamble

/-- The frames of all 31 channels, by channel index. -/
def closedFormTable : List Frame := (List.range 31).map frameOf

end Sys2Proof.Machine
end

