-- ==== Sys2Proof/Syntax.lean ====
section
/-! DEFINITION. The six commands (30_encoding.md R59), one constructor per row of spec/opcode_table.json. `DIN` and the
input bundle are presented beside the command word (R63) and are no part of it. -/

namespace Sys2Proof

/-- A legal command word, decoded (R59). `addr` is the word address in `CMD[11:4]`. -/
inductive Instr where
  | nop
  | cfgWrite (addr : RegAddr)
  | cfgRead (addr : RegAddr)
  | iterate
  | freqReq
  | clrStatus
deriving DecidableEq, Repr

end Sys2Proof
end

