-- ==== Sys2Proof/WellFormed.lean ====
section
/-! DEFINITION. What is well-formed: a parameter set (00_scope.md R6) and an instruction. -/

namespace Sys2Proof

/-- R6: the conditions on a parameter set, in the order of the rule. A model refuses an instance that violates one. -/
def Params.wf (p : Params) : Bool :=
  p.w == 32 &&
  (1 ≤ p.shift && p.shift ≤ 30) &&
  (0 ≤ p.limit && p.limit ≤ 2147483647) &&
  (0 ≤ p.minMotorOutput && p.minMotorOutput ≤ Machine.one p) &&
  (0 ≤ p.decayAlpha && p.decayAlpha ≤ Machine.one p) &&
  0 ≤ p.gestureT &&
  0 ≤ p.extreme &&
  (1 ≤ p.gestureN && p.gestureN ≤ 8) &&
  p.dtMax == Machine.one p / 50 &&
  p.frameTable == Machine.closedFormTable

/-- Every term of `Instr` is well-formed: the one operand, an address, is 8 bits wide by its type, and every address is
a legal operand (20_memory.md R42, R44). Ill-formed command WORDS exist, and the decoder rejects them. -/
def Instr.wf : Instr → Bool
  | .nop => true
  | .cfgWrite _ => true
  | .cfgRead _ => true
  | .iterate => true
  | .freqReq => true
  | .clrStatus => true

end Sys2Proof
end

