-- ==== Sys2Proof/Decode.lean ====
section
/-! DEFINITION. The command word (30_encoding.md R58): decoder, total and rejecting by name (R60), then encoder, then the
rows of the opcode map with their match and mask (R59). -/

namespace Sys2Proof

/-- Why a word is illegal (R60), the first reason in the order of that rule. -/
inductive IllegalReason where
  /-- `OP` is in 0x6 .. 0xF. -/
  | badOp
  /-- `RSVD` is not 0. -/
  | reservedBits
  /-- `ADDR` is not 0 on a command that has no address. -/
  | strayAddr
deriving DecidableEq, Repr

/-- What a command word decodes to. -/
inductive Decoded where
  | instr (i : Instr)
  | illegal (r : IllegalReason)
deriving DecidableEq, Repr

/-- `OP` (R58), bits 3:0. -/
def opField (w : Word) : BitVec 4 := w.extractLsb' 0 4

/-- `ADDR` (R58), bits 11:4. -/
def addrField (w : Word) : RegAddr := w.extractLsb' 4 8

/-- `RSVD` (R58), bits 31:12. -/
def rsvdField (w : Word) : BitVec 20 := w.extractLsb' 12 20

/-- A command without an address: legal only when `ADDR` is 0 (R60). -/
def withoutAddr (w : Word) (i : Instr) : Decoded :=
  if addrField w = 0#8 then .instr i else .illegal .strayAddr

/-- The decoder (R59, R60, R62). -/
def decode (w : Word) : Decoded :=
  if 6 ≤ (opField w).toNat then .illegal .badOp
  else if rsvdField w ≠ 0#20 then .illegal .reservedBits
  else if opField w = 0x1#4 then .instr (.cfgWrite (addrField w))
  else if opField w = 0x2#4 then .instr (.cfgRead (addrField w))
  else if opField w = 0x3#4 then withoutAddr w .iterate
  else if opField w = 0x4#4 then withoutAddr w .freqReq
  else if opField w = 0x5#4 then withoutAddr w .clrStatus
  else withoutAddr w .nop

/-- A command word from its fields (R58). -/
def commandWord (addr : RegAddr) (op : BitVec 4) : Word := 0#20 ++ addr ++ op

/-- The encoder (R59). -/
def encode : Instr → Word
  | .nop => commandWord 0x00 0x0
  | .cfgWrite addr => commandWord addr 0x1
  | .cfgRead addr => commandWord addr 0x2
  | .iterate => commandWord 0x00 0x3
  | .freqReq => commandWord 0x00 0x4
  | .clrStatus => commandWord 0x00 0x5

/-- The match and mask of a command (R59). -/
structure OpRow where
  pattern : Word
  mask : Word
deriving DecidableEq, Repr

/-- A word matches a row when its masked bits are the row's pattern (R59). -/
def OpRow.accepts (r : OpRow) (w : Word) : Bool := w &&& r.mask == r.pattern

/-- The full match and mask per command, in the order R59 gives them. -/
def opcodeRows : List OpRow :=
  [⟨0x00000000, 0xFFFFFFFF⟩, ⟨0x00000001, 0xFFFFF00F⟩, ⟨0x00000002, 0xFFFFF00F⟩,
   ⟨0x00000003, 0xFFFFFFFF⟩, ⟨0x00000004, 0xFFFFFFFF⟩, ⟨0x00000005, 0xFFFFFFFF⟩]

/-- The row of a command's constructor. -/
def rowOf : Instr → OpRow
  | .nop => ⟨0x00000000, 0xFFFFFFFF⟩
  | .cfgWrite _ => ⟨0x00000001, 0xFFFFF00F⟩
  | .cfgRead _ => ⟨0x00000002, 0xFFFFF00F⟩
  | .iterate => ⟨0x00000003, 0xFFFFFFFF⟩
  | .freqReq => ⟨0x00000004, 0xFFFFFFFF⟩
  | .clrStatus => ⟨0x00000005, 0xFFFFFFFF⟩

/-- The instruction that the decoder reads from a table word of `nbits` bits, bits above `nbits` being 0. A command word
is 32 bits (R62), so a longer row is no command. -/
def decodeTableWord (nbits w : Nat) : Option Instr :=
  if 32 < nbits then none
  else
    match decode (BitVec.ofNat 32 (w % 2 ^ nbits)) with
    | .instr i => some i
    | .illegal _ => none

end Sys2Proof
end

