-- ==== Sys2Proof/Machine/State.lean ====
section
/-! DEFINITION. The state of the FCC (10_state.md), its reset (70_reset_and_hazards.md R143), and the reasons a step can
stop. -/

namespace Sys2Proof.Machine

/-- `ARM_STATE` (10_state.md R18). Code 3 is never written, and is no value of the type (log 10). -/
inductive ArmState where
  | disarmed | armedNotStarted | armedStarted
deriving DecidableEq, Repr

/-- `GEST_STATE` (R25): Start, or the side of the last counted crossing. -/
inductive GestState where
  | start | low | high
deriving DecidableEq, Repr

/-- `STATUS.FREQ_RESULT` (R35): none since reset, SENT, UNCHANGED, REJECTED. -/
inductive FreqResult where
  | noneYet | sent | unchanged | rejected
deriving DecidableEq, Repr

/-- An event of the per-command event list (R40, 60_exceptions.md R134). -/
inductive Event where
  | calArm | calGesture | save
deriving DecidableEq, Repr

/-- The three transmitter lines (R28). -/
inductive Line where
  | cs | clk | data
deriving DecidableEq, Repr

/-- An element of the waveform (R40): a line takes a level, or at least `T_DWELL` passes (`wait_min T_DWELL`, the only
wait any rule makes; log 7). -/
inductive WaveElem where
  | drive (l : Line) (level : Bool)
  | waitMin
deriving DecidableEq, Repr

/-- `TX_PHASE` (R29). -/
inductive TxPhase where
  | data | high | low
deriving DecidableEq, Repr

/-- The transmitter's sequencing state (R29): `TX_FRAME`, `TX_INDEX`, `TX_PHASE`. -/
structure TxSeq where
  frame : Frame
  index : Fin 25
  phase : TxPhase
deriving DecidableEq, Repr

/-- Nine gains: a term for each of `Kp`, `Ki`, `Kd`, a word for each axis (R20, R30). -/
structure Gains where
  kp : Axes Word
  ki : Axes Word
  kd : Axes Word
deriving DecidableEq, Repr

/-- The 27 `PRESET` registers (R30). -/
structure PresetBank where
  level : Gains
  semiAcro : Gains
  fullAcro : Gains
deriving DecidableEq, Repr

/-- The input bundle (R39). `aux` lists the auxiliary channels from channel 0; a bundle the FCC has sampled has exactly
`N_AUX` of them (log 8). -/
structure Inputs where
  cmd : Word
  din : Word
  nowUs : Word
  thr : Word
  roll : Word
  pitch : Word
  yaw : Word
  aux : List Word
  failsafeIn : Bool
  err : Axes Word
  gyro : Axes Word
deriving DecidableEq, Repr

/-- What the host does between two steps: it asserts `RST` with a timer value (70_reset_and_hazards.md R143), or
presents one command with its input bundle (logs 1, 3). -/
inductive HostAct where
  | reset (nowUs : Word)
  | command (inp : Inputs)
deriving DecidableEq, Repr

/-- The state. The comment of a field names the register of 10_state.md; `params`, `inputs` and `host` are the model's
own (logs 1, 2, 5). -/
structure State where
  /-- The elaboration parameters of the instance (00_scope.md R5); no step changes them. -/
  params : Params
  /-- `ARM_STATE` (R18). -/
  armState : ArmState
  /-- `FLIGHT_MODE` (R19). -/
  flightMode : FlightMode
  /-- `ACT_KP`, `ACT_KI`, `ACT_KD` (R20). -/
  act : Gains
  /-- `INTEG` (R21). -/
  integ : Axes Word
  /-- `PID_OUT` (R22). -/
  pidOut : Axes Word
  /-- `LAST_TICK` (R23). -/
  lastTick : Word
  /-- `DT` (R24). -/
  dt : Word
  /-- `GEST_STATE` (R25). -/
  gestState : GestState
  /-- `GEST_COUNT` (R25). -/
  gestCount : BitVec 3
  /-- `GEST_T0` (R25). -/
  gestT0 : Word
  /-- `MOTOR` (R26). -/
  motor : Quad Word
  /-- `LAST_FREQ` (R27). -/
  lastFreq : Word
  /-- `VTX_CS` (R28). -/
  vtxCs : Bool
  /-- `VTX_CLK` (R28). -/
  vtxClk : Bool
  /-- `VTX_DATA` (R28). -/
  vtxData : Bool
  /-- `TX_FRAME`, `TX_INDEX`, `TX_PHASE` (R29); `none` is idle. -/
  tx : Option TxSeq
  /-- `PRESET` (R30). -/
  preset : PresetBank
  /-- `AIRFRAME` (R31). -/
  airframe : Word
  /-- `MIX_SIGNS` (R32). -/
  mixSigns : Word
  /-- `IDLE_OFFSET` (R33). -/
  idleOffset : Word
  /-- `GSF` (R34). -/
  gsf : Word
  /-- `STATUS.LOW_THR` (R35). -/
  lowThr : Bool
  /-- `STATUS.FAILSAFE` (R35). -/
  failsafe : Bool
  /-- `STATUS.CFG_LOCK` (R35). -/
  cfgLock : Bool
  /-- `STATUS.CFG_ERR` (R35). -/
  cfgErr : Bool
  /-- `STATUS.ILLEGAL_CMD` (R35). -/
  illegalCmd : Bool
  /-- `STATUS.FREQ_RESULT` (R35). -/
  freqResult : FreqResult
  /-- `DOUT` (R37). -/
  dout : Word
  /-- The event list of the last command (R40). -/
  events : List Event
  /-- The waveform of the last command (R40). -/
  waveform : List WaveElem
  /-- The input bundle as the last command sampled it (R39). -/
  inputs : Inputs
  /-- What the host does next, first action first. -/
  host : List HostAct
deriving DecidableEq, Repr

/-- No fault exists: "No command raises an exception" (60_exceptions.md R130). Nobody raises one. -/
inductive Fault where
deriving DecidableEq, Repr

/-- Why a step is refused. -/
inductive Refusal where
  /-- Raised by an arm of `exec` whose instruction has no meaning yet (none is left); safe. -/
  | notModelled (mnemonic : String)
  /-- Raised by `step` on an instance whose parameters break 00_scope.md R6, "a model refuses an instance that violates
  one"; safe (log 6). -/
  | illFormedParams
deriving DecidableEq, Repr

/-- All nine gains 0. -/
def Gains.zero : Gains := ⟨Axes.const 0#32, Axes.const 0#32, Axes.const 0#32⟩

/-- A bundle whose ports are all 0, but for the timer, with `nAux` auxiliary channels. -/
def Inputs.quiet (nAux : Nat) (nowUs : Word) : Inputs where
  cmd := 0#32
  din := 0#32
  nowUs := nowUs
  thr := 0#32
  roll := 0#32
  pitch := 0#32
  yaw := 0#32
  aux := List.replicate nAux 0#32
  failsafeIn := false
  err := Axes.const 0#32
  gyro := Axes.const 0#32

/-- The reset table of 70_reset_and_hazards.md R143, for an instance `p` whose reset samples `nowUs`, with `host` still
to come. -/
def State.resetWith (p : Params) (nowUs : Word) (host : List HostAct) : State where
  params := p
  armState := .disarmed
  flightMode := .level
  act := Gains.zero
  integ := Axes.const 0#32
  pidOut := Axes.const 0#32
  lastTick := nowUs
  dt := 0#32
  gestState := .start
  gestCount := 0#3
  gestT0 := 0#32
  motor := ⟨toWord p.minMotorOutput, toWord p.minMotorOutput, toWord p.minMotorOutput, toWord p.minMotorOutput⟩
  lastFreq := 0#32
  vtxCs := true
  vtxClk := false
  vtxData := false
  tx := none
  preset := ⟨Gains.zero, Gains.zero, Gains.zero⟩
  airframe := 0x00000001#32
  mixSigns := 0x00000C1D#32
  idleOffset := 0#32
  gsf := toWord (one p)
  lowThr := false
  failsafe := false
  cfgLock := false
  cfgErr := false
  illegalCmd := false
  freqResult := .noneYet
  dout := 0#32
  events := []
  waveform := []
  inputs := Inputs.quiet p.nAux nowUs
  host := host

/-- The machine right after power-up, which is a reset (60_exceptions.md R142): the reference instance, the timer at 0
(log 4), the host silent (log 1). -/
def State.reset : State := State.resetWith Params.reference 0#32 []

end Sys2Proof.Machine
end

