-- ==== Sys2Proof/Machine/Operands.lean ====
section
/-! DEFINITION. How a command reads what it works on: axes, gains and motors by index, the configuration bits, the stick
ports, the operand `DIN`, and the register map of 20_memory.md R43. -/

namespace Sys2Proof

/-- The entry of an axis. -/
def Axes.get {α : Type} (v : Axes α) : Axis → α
  | .roll => v.roll
  | .pitch => v.pitch
  | .yaw => v.yaw

/-- Replace the entry of an axis. -/
def Axes.set {α : Type} (v : Axes α) : Axis → α → Axes α
  | .roll, a => { v with roll := a }
  | .pitch, a => { v with pitch := a }
  | .yaw, a => { v with yaw := a }

/-- The entry of motor `m` (10_state.md R26). -/
def Quad.get {α : Type} (v : Quad α) : Fin 4 → α
  | 0 => v.m0
  | 1 => v.m1
  | 2 => v.m2
  | 3 => v.m3

/-- A quad from a function of the motor index. -/
def Quad.ofFn {α : Type} (f : Fin 4 → α) : Quad α := ⟨f 0, f 1, f 2, f 3⟩

/-- Axis index, Roll 0, Pitch 1, Yaw 2 (30_encoding.md R65). -/
def Axis.idx : Axis → Nat
  | .roll => 0
  | .pitch => 1
  | .yaw => 2

/-- Gain-term index, Kp 0, Ki 1, Kd 2 (R65). -/
def GainTerm.idx : GainTerm → Nat
  | .kp => 0
  | .ki => 1
  | .kd => 2

/-- Flight-mode code, Level 0, SemiAcro 1, FullAcro 2 (R65). -/
def FlightMode.idx : FlightMode → Nat
  | .level => 0
  | .semiAcro => 1
  | .fullAcro => 2

/-- The axis of an index below 3. -/
def Axis.ofIdx : Nat → Axis
  | 0 => .roll
  | 1 => .pitch
  | _ => .yaw

/-- The gain term of an index below 3. -/
def GainTerm.ofIdx : Nat → GainTerm
  | 0 => .kp
  | 1 => .ki
  | _ => .kd

/-- The flight mode of an index below 3. -/
def FlightMode.ofIdx : Nat → FlightMode
  | 0 => .level
  | 1 => .semiAcro
  | _ => .fullAcro

namespace Machine

/-- The word of a term and an axis. -/
def Gains.get (g : Gains) (t : GainTerm) (a : Axis) : Word :=
  match t with
  | .kp => g.kp.get a
  | .ki => g.ki.get a
  | .kd => g.kd.get a

/-- Replace the word of a term and an axis. -/
def Gains.set (g : Gains) (t : GainTerm) (a : Axis) (v : Word) : Gains :=
  match t with
  | .kp => { g with kp := g.kp.set a v }
  | .ki => { g with ki := g.ki.set a v }
  | .kd => { g with kd := g.kd.set a v }

/-- The preset gains of a mode: `PRESET[m]` (10_state.md R30). -/
def PresetBank.get (b : PresetBank) : FlightMode → Gains
  | .level => b.level
  | .semiAcro => b.semiAcro
  | .fullAcro => b.fullAcro

/-- Replace the preset gains of a mode. -/
def PresetBank.set (b : PresetBank) : FlightMode → Gains → PresetBank
  | .level, g => { b with level := g }
  | .semiAcro, g => { b with semiAcro := g }
  | .fullAcro, g => { b with fullAcro := g }

/-- `AIRFRAME.YAW_INVERT` (R31). -/
def yawInvert (airframe : Word) : Bool := airframe.getLsbD 0

/-- `AIRFRAME.ARM_YAW_DIR` (R31). -/
def armYawDir (airframe : Word) : Bool := airframe.getLsbD 1

/-- `AIRFRAME.FULLACRO_ROLL_DIR` (R31). -/
def fullAcroRollDir (airframe : Word) : Bool := airframe.getLsbD 2

/-- What a CFG_WRITE of `AIRFRAME` stores: bits 2:0, the reserved bits 0 (20_memory.md R47). -/
def airframeStored (v : Word) : Word := (v.extractLsb' 0 3).setWidth 32

/-- What a CFG_WRITE of `MIX_SIGNS` stores: bits 11:0, the reserved bits 0 (20_memory.md R47). -/
def mixSignsStored (v : Word) : Word := (v.extractLsb' 0 12).setWidth 32

/-- `sgn(m, j)` (45_mixer.md R112). -/
def mixSign (mixSigns : Word) (m : Fin 4) (a : Axis) : Int :=
  if mixSigns.getLsbD (3 * m.val + a.idx) then -1 else 1

/-- `stick(a)` (40_commands.md R74), as `sint32`. -/
def stick (inp : Inputs) : Axis → Int
  | .roll => inp.roll.toInt
  | .pitch => inp.pitch.toInt
  | .yaw => inp.yaw.toInt

/-- The operand of FREQ_REQ: `DIN` as `uint32` megahertz (30_encoding.md R63). -/
def requestedFreq (inp : Inputs) : Nat := inp.din.toNat

/-- The registers of the register space (20_memory.md R43). -/
inductive Reg where
  | preset (m : FlightMode) (t : GainTerm) (a : Axis)
  | airframe
  | mixSigns
  | idleOffset
  | gsf
  | act (t : GainTerm) (a : Axis)
  | integ (a : Axis)
  | lastFreq
  | lastTick
  | dt
  | gestT0
  | status
  | motor (m : Fin 4)
  | pidOut (a : Axis)
deriving DecidableEq, Repr

/-- The map of R43; `none` for an unmapped address (R44). -/
def regAt (addr : RegAddr) : Option Reg :=
  let n := addr.toNat
  if n ≤ 0x1A then some (.preset (FlightMode.ofIdx (n / 9)) (GainTerm.ofIdx (n % 9 / 3)) (Axis.ofIdx (n % 3)))
  else if n < 0x20 then none
  else if n = 0x20 then some .airframe
  else if n = 0x21 then some .mixSigns
  else if n = 0x22 then some .idleOffset
  else if n = 0x23 then some .gsf
  else if n < 0x30 then none
  else if n ≤ 0x38 then some (.act (GainTerm.ofIdx ((n - 0x30) / 3)) (Axis.ofIdx ((n - 0x30) % 3)))
  else if n < 0x40 then none
  else if n ≤ 0x42 then some (.integ (Axis.ofIdx (n - 0x40)))
  else if n = 0x43 then some .lastFreq
  else if n = 0x44 then some .lastTick
  else if n = 0x45 then some .dt
  else if n = 0x46 then some .gestT0
  else if n = 0x47 then some .status
  else if n ≤ 0x4B then some (.motor (Fin.ofNat 4 (n - 0x48)))
  else if n ≤ 0x4E then some (.pidOut (Axis.ofIdx (n - 0x4C)))
  else none

/-- The address of a register, read from the same table row by row. -/
def Reg.addr : Reg → RegAddr
  | .preset m t a => BitVec.ofNat 8 (9 * m.idx + 3 * t.idx + a.idx)
  | .airframe => 0x20#8
  | .mixSigns => 0x21#8
  | .idleOffset => 0x22#8
  | .gsf => 0x23#8
  | .act t a => BitVec.ofNat 8 (0x30 + 3 * t.idx + a.idx)
  | .integ a => BitVec.ofNat 8 (0x40 + a.idx)
  | .lastFreq => 0x43#8
  | .lastTick => 0x44#8
  | .dt => 0x45#8
  | .gestT0 => 0x46#8
  | .status => 0x47#8
  | .motor m => BitVec.ofNat 8 (0x48 + m.val)
  | .pidOut a => BitVec.ofNat 8 (0x4C + a.idx)

/-- `RW` in the map of R43: the configuration registers. Every other register is `RO`. -/
def Reg.writable : Reg → Bool
  | .preset _ _ _ => true
  | .airframe => true
  | .mixSigns => true
  | .idleOffset => true
  | .gsf => true
  | .act _ _ => false
  | .integ _ => false
  | .lastFreq => false
  | .lastTick => false
  | .dt => false
  | .gestT0 => false
  | .status => false
  | .motor _ => false
  | .pidOut _ => false

end Machine

end Sys2Proof
end

