-- ==== Sys2Proof/Machine/Flags.lean ====
section
/-! DEFINITION. The status register (10_state.md R35, R36): the codes of its fields, its word, and every write to a
flag. The FCC has no arithmetic condition codes. -/

namespace Sys2Proof.Machine

/-- `ARM_STATE` codes (30_encoding.md R65). -/
def ArmState.code : ArmState → BitVec 2
  | .disarmed => 0#2
  | .armedNotStarted => 1#2
  | .armedStarted => 2#2

/-- `FLIGHT_MODE` codes (R65). -/
def modeCode (m : FlightMode) : BitVec 2 := BitVec.ofNat 2 m.idx

/-- `GEST_STATE` codes (R65). -/
def GestState.code : GestState → BitVec 2
  | .start => 0#2
  | .low => 1#2
  | .high => 2#2

/-- `FREQ_RESULT` codes (R65). -/
def FreqResult.code : FreqResult → BitVec 2
  | .noneYet => 0#2
  | .sent => 1#2
  | .unchanged => 2#2
  | .rejected => 3#2

/-- `STATUS`, assembled from its fields (R35), bit 31 on the left. -/
def statusWord (s : State) : Word :=
  0#16 ++ s.freqResult.code ++ BitVec.ofBool s.illegalCmd ++ BitVec.ofBool s.cfgErr ++ BitVec.ofBool s.cfgLock ++
    BitVec.ofBool s.failsafe ++ BitVec.ofBool s.lowThr ++ s.gestCount ++ s.gestState.code ++ modeCode s.flightMode ++
    s.armState.code

/-- `set_sticky CFG_ERR` (00_scope.md R11). -/
def setCfgErr (s : State) : State := { s with cfgErr := true }

/-- `set_sticky ILLEGAL_CMD`. -/
def setIllegalCmd (s : State) : State := { s with illegalCmd := true }

/-- The effect of CLR_STATUS (40_commands.md R73). -/
def clearSticky (s : State) : State := { s with cfgErr := false, illegalCmd := false }

/-- `CFG_LOCK <- 1` (40_commands.md R74). -/
def lockConfig (s : State) : State := { s with cfgLock := true }

/-- `FREQ_RESULT <- r` (46_freq_encoder.md R128). -/
def setFreqResult (r : FreqResult) (s : State) : State := { s with freqResult := r }

/-- The last two writes of ITERATE: `LOW_THR <- low`, `FAILSAFE <- FAILSAFE_IN` (40_commands.md R74, 42_arming.md R93). -/
def mirrorFlags (low : Bool) (s : State) : State := { s with lowThr := low, failsafe := s.inputs.failsafeIn }

end Sys2Proof.Machine
end

