-- ==== Sys2Proof/Machine/Ops.lean ====
section
/-! DEFINITION. The operations every command is built from: reading and writing the register space, emitting an event,
driving a line, starting a command, refusing an illegal word, reset, and what the ports show.

The FCC takes no exception and returns from none (60_exceptions.md R130, R132, R133), so there is no such operation. -/

namespace Sys2Proof.Machine

/-- `RegRead` of a mapped register (20_memory.md R43). -/
def regValue (s : State) : Reg → Word
  | .preset m t a => (s.preset.get m).get t a
  | .airframe => s.airframe
  | .mixSigns => s.mixSigns
  | .idleOffset => s.idleOffset
  | .gsf => s.gsf
  | .act t a => s.act.get t a
  | .integ a => s.integ.get a
  | .lastFreq => s.lastFreq
  | .lastTick => s.lastTick
  | .dt => s.dt
  | .gestT0 => s.gestT0
  | .status => statusWord s
  | .motor m => s.motor.get m
  | .pidOut a => s.pidOut.get a

/-- `RegRead(a)` (00_scope.md R11); `none` for an unmapped address. -/
def regRead (s : State) (addr : RegAddr) : Option Word := (regAt addr).map (regValue s)

/-- The store of an accepted CFG_WRITE (40_commands.md R71, its `case`). A read-only register keeps its value. -/
def cfgStore (v : Word) (s : State) : Reg → State
  | .preset m t a => { s with preset := s.preset.set m ((s.preset.get m).set t a v) }
  | .airframe => { s with airframe := airframeStored v }
  | .mixSigns => { s with mixSigns := mixSignsStored v }
  | .idleOffset => { s with idleOffset := v }
  | .gsf => { s with gsf := v }
  | .act _ _ => s
  | .integ _ => s
  | .lastFreq => s
  | .lastTick => s
  | .dt => s
  | .gestT0 => s
  | .status => s
  | .motor _ => s
  | .pidOut _ => s

/-- `RegWrite(a, v)` with its three refusals, the address check before the lock check (R71, 60_exceptions.md R136). -/
def regWrite (addr : RegAddr) (v : Word) (s : State) : State :=
  match regAt addr with
  | none => setCfgErr s
  | some r =>
    if r.writable then
      if s.cfgLock then setCfgErr s else cfgStore v s r
    else setCfgErr s

/-- `DOUT <- v`. -/
def setDout (v : Word) (s : State) : State := { s with dout := v }

/-- `emit e` (00_scope.md R11). -/
def emit (e : Event) (s : State) : State := { s with events := s.events ++ [e] }

/-- `drive l, b`: the line takes the level, and the waveform records it (R11, 46_freq_encoder.md R125). -/
def drive (l : Line) (b : Bool) (s : State) : State :=
  match l with
  | .cs => { s with vtxCs := b, waveform := s.waveform ++ [.drive .cs b] }
  | .clk => { s with vtxClk := b, waveform := s.waveform ++ [.drive .clk b] }
  | .data => { s with vtxData := b, waveform := s.waveform ++ [.drive .data b] }

/-- `wait_min T_DWELL` (R11, R125). -/
def waitMin (s : State) : State := { s with waveform := s.waveform ++ [.waitMin] }

/-- The least time a waveform takes when each `wait_min` takes at least `tDwell` (46_freq_encoder.md R126). -/
def minDuration (tDwell : Nat) : List WaveElem → Nat
  | [] => 0
  | .drive _ _ :: r => minDuration tDwell r
  | .waitMin :: r => tDwell + minDuration tDwell r

/-- The auxiliary ports `AUX[0 .. N_AUX-1]` (10_state.md R39) read from what the host drives: no channel beyond them is a
port, and a port the host leaves undriven reads 0 (log 8). -/
def sampleAux (nAux : Nat) (driven : List Word) : List Word := (List.range nAux).map fun i => driven.getD i 0#32

/-- The bundle the FCC samples from what the host drives (R39). -/
def sampleBundle (p : Params) (inp : Inputs) : Inputs := { inp with aux := sampleAux p.nAux inp.aux }

/-- The start of every command (40_commands.md R69, 10_state.md R39): the host's action is consumed, the bundle is
sampled, the per-command outputs are cleared. -/
def beginCommand (inp : Inputs) (rest : List HostAct) (s : State) : State :=
  { s with inputs := sampleBundle s.params inp, host := rest, events := [], waveform := [] }

/-- The effect of an illegal command word (30_encoding.md R60). -/
def refuseIllegalWord (s : State) : State := setIllegalCmd s

/-- The `RST` input between two commands (70_reset_and_hazards.md R143). The instance and what the host still does are
no registers and stay. -/
def applyReset (nowUs : Word) (rest : List HostAct) (s : State) : State := State.resetWith s.params nowUs rest

/-- A step in which the host does nothing: the FCC holds its state (60_exceptions.md R142). -/
def holdState (s : State) : State := s

/-- The host presents one command word, with every other port 0, before everything else it does. -/
def presentWord (w : Word) (s : State) : State :=
  { s with host := .command { Inputs.quiet s.params.nAux 0#32 with cmd := w } :: s.host }

/-- What the ports show (10_state.md R40). -/
structure Outputs where
  motor : Quad Word
  status : Word
  dout : Word
  vtxCs : Bool
  vtxClk : Bool
  vtxData : Bool
  events : List Event
  waveform : List WaveElem
deriving DecidableEq, Repr

/-- The outputs: the continuous ones driven by registers, then the per-command ones (R40). -/
def State.outputs (s : State) : Outputs where
  motor := s.motor
  status := statusWord s
  dout := s.dout
  vtxCs := s.vtxCs
  vtxClk := s.vtxClk
  vtxData := s.vtxData
  events := s.events
  waveform := s.waveform

end Sys2Proof.Machine
end

