-- ==== Sys2Proof/Machine/Timing.lean ====
section
/-! DEFINITION. The timing-measurement unit (41_timing.md). -/

namespace Sys2Proof.Machine

/-- The microseconds from one timer value to another, by wraparound-safe unsigned subtraction (R77). -/
def elapsedUs (now since : Word) : Int := wrapu32 ((now.toNat : Int) - (since.toNat : Int))

/-- The time step of an elapsed time (R76). -/
def dtOf (p : Params) (elapsed : Int) : Int := min (asr (elapsed * (p.dtFactor : Int)) (32 - p.shift)) p.dtMax

/-- `tick(NOW_US)` (R76). -/
def tick (s : State) : State :=
  { s with
    dt := toWord (dtOf s.params (elapsedUs s.inputs.nowUs s.lastTick))
    lastTick := s.inputs.nowUs }

end Sys2Proof.Machine
end

