-- ==== Sys2Proof/Machine/Gesture.lean ====
section
/-! DEFINITION. The gesture detector (43_gesture.md). The count is compared as a natural number before it is stored in
three bits, since it may reach 8 inside the step (00_scope.md R6; log 11). -/

namespace Sys2Proof.Machine

/-- The working values of one gesture step. -/
structure GestWork where
  state : GestState
  count : Nat
  t0 : Word
deriving DecidableEq, Repr

/-- The deadline test (R96). -/
def gestDeadline (p : Params) (now : Word) (g : GestWork) : GestWork :=
  if g.state ≠ .start ∧ (p.gestureTimeoutUs : Int) < elapsedUs now g.t0 then { g with state := .start, count := 0 }
  else g

/-- The side of a stick sample (R97): never `start`; `none` in the deadband. -/
def gestSide (p : Params) (v : Int) : Option GestState :=
  if v < -p.gestureT then some .low
  else if p.gestureT < v then some .high
  else none

/-- The crossing test (R98). -/
def gestCross (side : Option GestState) (now : Word) (g : GestWork) : GestWork :=
  match side with
  | none => g
  | some sd =>
    if g.state = .start then { state := sd, count := 1, t0 := now }
    else if sd ≠ g.state then { state := sd, count := g.count + 1, t0 := now }
    else g

/-- Store the working values in the three registers (10_state.md R25). -/
def storeGest (g : GestWork) (s : State) : State :=
  { s with gestState := g.state, gestCount := BitVec.ofNat 3 g.count, gestT0 := g.t0 }

/-- The firing test (R99): the events, and back to Start. -/
def gestFire (g : GestWork) (s : State) : State :=
  if g.count = s.params.gestureN then
    storeGest { g with state := .start, count := 0 } (emit .save (emit .calGesture s))
  else storeGest g s

/-- `gesture_step(stick(GESTURE_AXIS), NOW_US)` (R96, R98, R99 in this order). -/
def gestureStep (s : State) : State :=
  let g : GestWork := { state := s.gestState, count := s.gestCount.toNat, t0 := s.gestT0 }
  let g := gestDeadline s.params s.inputs.nowUs g
  let g := gestCross (gestSide s.params (stick s.inputs s.params.gestureAxis)) s.inputs.nowUs g
  gestFire g s

/-- The gesture step where it is enabled (R95): Disarmed after the arming step, and low throttle. -/
def gestureIfEnabled (low : Bool) (s : State) : State :=
  if s.armState = .disarmed ∧ low = true then gestureStep s else s

end Sys2Proof.Machine
end

