-- ==== Sys2Proof/Machine/Arming.lean ====
section
/-! DEFINITION. The safety gate and arming state machine (42_arming.md). -/

namespace Sys2Proof.Machine

/-- The low-throttle predicate (R83). -/
def lowThrottle (p : Params) (thr : Word) : Bool := thr.toInt < p.lowThreshold

/-- `hi(v)` (R84). -/
def stickHi (p : Params) (v : Word) : Bool := p.extreme < v.toInt

/-- `lo(v)` (R84). -/
def stickLo (p : Params) (v : Word) : Bool := v.toInt < -p.extreme

/-- `arm_yaw(v)` (R84). -/
def armYaw (p : Params) (airframe v : Word) : Bool :=
  if armYawDir airframe then stickLo p v else stickHi p v

/-- `disarm_yaw(v)` (R84). -/
def disarmYaw (p : Params) (airframe v : Word) : Bool :=
  if armYawDir airframe then stickHi p v else stickLo p v

/-- `mode_select(r)` (R87). -/
def modeSelect (p : Params) (airframe r : Word) : FlightMode :=
  let fa := if fullAcroRollDir airframe then stickLo p r else stickHi p r
  let sa := if fullAcroRollDir airframe then stickHi p r else stickLo p r
  if fa then .fullAcro else if sa then .semiAcro else .level

/-- `gain_load(m)` (R88). -/
def gainLoad (m : FlightMode) (s : State) : State := { s with act := s.preset.get m }

/-- The arm transition (R86), its effects in the order of the rule. -/
def armTransition (s : State) : State :=
  let mode := modeSelect s.params s.airframe s.inputs.roll
  let s := gainLoad mode { s with flightMode := mode }
  emit .calArm { s with armState := .armedNotStarted, gestState := .start, gestCount := 0#3 }

/-- The disarm transition (R89). -/
def disarmTransition (s : State) : State := { s with armState := .disarmed }

/-- The start transition (R90). -/
def startTransition (s : State) : State := { s with armState := .armedStarted }

/-- `arm_step(low, YAW, ROLL)` (R85). -/
def armStep (low : Bool) (s : State) : State :=
  match s.armState with
  | .disarmed =>
    if low && armYaw s.params s.airframe s.inputs.yaw then armTransition s else s
  | .armedNotStarted =>
    if low && disarmYaw s.params s.airframe s.inputs.yaw then disarmTransition s
    else if !low then startTransition s
    else s
  | .armedStarted =>
    if low && disarmYaw s.params s.airframe s.inputs.yaw then disarmTransition s else s

/-- `gate_open` (R91), on the state after the arming step. -/
def gateOpen (low : Bool) (s : State) : Bool := s.armState == .armedStarted && !low

end Sys2Proof.Machine
end

