-- ==== Sys2Proof/Machine/Mixer.lean ====
section
/-! DEFINITION. The mixer and safety override (45_mixer.md). -/

namespace Sys2Proof.Machine

/-- `throttle_output(THR)` (R111). -/
def throttleOutput (p : Params) (thr idleOffset : Word) : Int :=
  clamp (asr thr.toInt 1 + half p + idleOffset.toInt) 0 (one p)

/-- `acc[m]`, the exact mix of one motor (R112). -/
def mixAcc (mixSigns : Word) (thrOut : Int) (pidOut : Axes Word) (m : Fin 4) : Int :=
  thrOut + mixSign mixSigns m .roll * pidOut.roll.toInt + mixSign mixSigns m .pitch * pidOut.pitch.toInt +
    mixSign mixSigns m .yaw * pidOut.yaw.toInt

/-- A motor command (R113, R114): the clamped mix, or the floor while the gate is closed. -/
def motorCommand (p : Params) (gate : Bool) (acc : Int) : Int :=
  if gate then clamp acc p.minMotorOutput (one p) else p.minMotorOutput

/-- `mix_and_gate(thr_out, PID_OUT, low)` (R114). -/
def mixAndGate (thrOut : Int) (low : Bool) (s : State) : State :=
  { s with
    motor := Quad.ofFn fun m =>
      toWord (motorCommand s.params (gateOpen low s) (mixAcc s.mixSigns thrOut s.pidOut m)) }

end Sys2Proof.Machine
end

