-- ==== Sys2Proof/Machine/Pid.lean ====
section
/-! DEFINITION. The PID unit (44_pid.md), on `sint32` readings. -/

namespace Sys2Proof.Machine

/-- Step 1, the integrator (R102): decay when the throttle is low, else accumulate and clamp. -/
def integStep (p : Params) (low : Bool) (integ e dt : Int) : Int :=
  if low then wrap32 (integ - fpmul p integ p.decayAlpha)
  else clamp (integ + fpmul p e dt) (-p.limit) p.limit

/-- Step 2, the control law (R103): `u0`. -/
def controlLaw (p : Params) (e g integ kp ki kd : Int) : Int :=
  wrap32 (fpmul p e kp - fpmul p g kd + asr (fpmul p integ ki) p.kiShift)

/-- Step 3, the gain-schedule multiplier (R104). -/
def gainSchedule (p : Params) (thrOut gsf : Int) : Int :=
  wrap32 (fpmul p (wrap32 (thrOut - half p)) gsf + one p)

/-- Step 4, the yaw sign (R106). -/
def yawSign (invert : Bool) (a : Axis) (u1 : Int) : Int :=
  if a = .yaw ∧ invert = true then wrap32 (-u1) else u1

/-- `pid_axis(a, low, ERR[a], GYRO[a], gsm)` (R102, R103, R105, R106 in this order), writing `INTEG[a]` and then
`PID_OUT[a]`. -/
def pidAxis (low : Bool) (gsm : Int) (a : Axis) (s : State) : State :=
  let e := (s.inputs.err.get a).toInt
  let g := (s.inputs.gyro.get a).toInt
  let i := toWord (integStep s.params low (s.integ.get a).toInt e s.dt.toInt)
  let u0 := controlLaw s.params e g i.toInt (s.act.kp.get a).toInt (s.act.ki.get a).toInt (s.act.kd.get a).toInt
  let u1 := fpmul s.params u0 gsm
  { s with
    integ := s.integ.set a i
    pidOut := s.pidOut.set a (toWord (yawSign (yawInvert s.airframe) a u1)) }

/-- The three axes (40_commands.md R74). -/
def pidAll (low : Bool) (gsm : Int) (s : State) : State :=
  pidAxis low gsm .yaw (pidAxis low gsm .pitch (pidAxis low gsm .roll s))

end Sys2Proof.Machine
end

