-- ==== Sys2Proof/Machine/Transmitter.lean ====
section
/-! DEFINITION. The transmitter (46_freq_encoder.md R125), run on its sequencing state (10_state.md R29): each slot has
a data, a high and a low phase, and the whole frame is sent inside one command. -/

namespace Sys2Proof.Machine

/-- The bit of transmission slot `t`: `F[24 - t]` (30_encoding.md R67). -/
def slotBit (f : Frame) (t : Fin 25) : Bool := f.getLsbD (24 - t.val)

/-- The sequencing state after the low phase of a slot: the next slot, or idle after slot 24. -/
def txNext (q : TxSeq) : Option TxSeq :=
  if h : q.index.val < 24 then some { q with index := ⟨q.index.val + 1, by omega⟩, phase := .data } else none

/-- One phase of the transmitter (R125): data sets the data line; high raises the clock and waits; low drops it, waits,
and moves on, chip-select returning to its idle level after the last slot. -/
def txPhaseStep (s : State) : State :=
  match s.tx with
  | none => s
  | some q =>
    match q.phase with
    | .data => drive .data (slotBit q.frame q.index) { s with tx := some { q with phase := .high } }
    | .high => waitMin (drive .clk true { s with tx := some { q with phase := .low } })
    | .low =>
      match txNext q with
      | some q' => waitMin (drive .clk false { s with tx := some q' })
      | none => drive .cs true (waitMin (drive .clk false { s with tx := none }))

/-- `n` phases. -/
def txRun : Nat → State → State
  | 0, s => s
  | n + 1, s => txRun n (txPhaseStep s)

/-- `transmit(F)` (R125): chip-select low, then the 75 phases of 25 slots. -/
def transmit (f : Frame) (s : State) : State :=
  txRun 75 (drive .cs false { s with tx := some { frame := f, index := 0, phase := .data } })

end Sys2Proof.Machine
end

