-- ==== Sys2Proof/Machine/Commands.lean ====
section
/-! DEFINITION. The meaning of each command (40_commands.md, 46_freq_encoder.md R128). -/

namespace Sys2Proof.Machine

/-- `NOP` (40_commands.md R70). -/
def execNop (s : State) : Host.Outcome State Fault Refusal := .next s

/-- `CFG_WRITE addr, value` (40_commands.md R71), the value on `DIN`. -/
def execCfgWrite (addr : RegAddr) (s : State) : Host.Outcome State Fault Refusal :=
  .next (regWrite addr s.inputs.din s)

/-- `CFG_READ addr` (40_commands.md R72). -/
def execCfgRead (addr : RegAddr) (s : State) : Host.Outcome State Fault Refusal :=
  match regRead s addr with
  | none => .next (setCfgErr (setDout 0#32 s))
  | some v => .next (setDout v s)

/-- The steps of `ITERATE` in their order (40_commands.md R74). -/
def iterate (s : State) : State :=
  let s := tick (lockConfig s)
  let low := lowThrottle s.params s.inputs.thr
  let s := gestureIfEnabled low (armStep low s)
  let thrOut := throttleOutput s.params s.inputs.thr s.idleOffset
  let gsm := gainSchedule s.params thrOut s.gsf.toInt
  mirrorFlags low (mixAndGate thrOut low (pidAll low gsm s))

/-- `ITERATE` (40_commands.md R74). -/
def execIterate (s : State) : Host.Outcome State Fault Refusal := .next (iterate s)

/-- `FREQ_REQ f` (46_freq_encoder.md R128). -/
def execFreqReq (s : State) : Host.Outcome State Fault Refusal :=
  let f := requestedFreq s.inputs
  if !validFreq f then .next (setFreqResult .rejected s)
  else if f = s.lastFreq.toNat then .next (setFreqResult .unchanged s)
  else
    let s' := transmit (s.params.frameTable.getD (channelIndex f) 0#25) s
    .next (setFreqResult .sent { s' with lastFreq := s.inputs.din })

/-- `CLR_STATUS` (40_commands.md R73). -/
def execClrStatus (s : State) : Host.Outcome State Fault Refusal := .next (clearSticky s)

end Sys2Proof.Machine
end

