-- ==== Sys2Proof/Machine/Dispatch.lean ====
section
/-! DEFINITION. One arm per command (30_encoding.md R59), each a call of its meaning. -/

namespace Sys2Proof.Machine

def exec (i : Instr) (s : State) : Host.Outcome State Fault Refusal :=
  match i with
  | .nop => Sys2Proof.Machine.execNop s
  | .cfgWrite addr => Sys2Proof.Machine.execCfgWrite addr s
  | .cfgRead addr => Sys2Proof.Machine.execCfgRead addr s
  | .iterate => Sys2Proof.Machine.execIterate s
  | .freqReq => Sys2Proof.Machine.execFreqReq s
  | .clrStatus => Sys2Proof.Machine.execClrStatus s

end Sys2Proof.Machine
end

