-- ==== Sys2Proof/Machine/Step.lean ====
section
/-! DEFINITION. One step: the host's next action, taken whole (40_commands.md R69; 70_reset_and_hazards.md R143, R149). -/

namespace Sys2Proof.Machine

/-- One step. An instance with ill-formed parameters is refused (00_scope.md R6). Else, by the host's next action: none,
and the state is held; reset; or a command, whose per-command outputs are cleared, then its word checked, then its rule
run (40_commands.md R69). -/
def step (s : State) : Host.Outcome State Fault Refusal :=
  if s.params.wf then
    match s.host with
    | [] => .next (holdState s)
    | .reset nowUs :: rest => .next (applyReset nowUs rest s)
    | .command inp :: rest =>
      match decode inp.cmd with
      | .instr i => exec i (beginCommand inp rest s)
      | .illegal _ => .next (refuseIllegalWord (beginCommand inp rest s))
  else .refused .illFormedParams

/-- The command word `w` of `nbits` bits presented as the host's next action, every other port 0 (log 1). -/
def State.withFetchWord (s : State) (nbits w : Nat) : State := presentWord (BitVec.ofNat 32 (w % 2 ^ nbits)) s

end Sys2Proof.Machine
end

