-- ==== Sys2Proof/Safety.lean ====
section
/-! DEFINITION. The terms claims are stated in: the conditions of the arming and gesture rules on a state about to run an
ITERATE, the waveform of a frame in closed form, and the invariant of a safe machine. They are written from the rules on
integers and bits, not from the functions of the machine. -/

namespace Sys2Proof.Safety

open Sys2Proof.Machine

/-- Throttle is low (42_arming.md R83). -/
def Low (s : State) : Prop := s.inputs.thr.toInt < s.params.lowThreshold

/-- The yaw stick is at the arm extreme (R84); bit 1 of `AIRFRAME` is `ARM_YAW_DIR` (10_state.md R31). -/
def YawArms (s : State) : Prop :=
  if s.airframe.getLsbD 1 = true then s.inputs.yaw.toInt < -s.params.extreme
  else s.inputs.yaw.toInt > s.params.extreme

/-- The yaw stick is at the disarm extreme (R84). -/
def YawDisarms (s : State) : Prop :=
  if s.airframe.getLsbD 1 = true then s.inputs.yaw.toInt > s.params.extreme
  else s.inputs.yaw.toInt < -s.params.extreme

/-- An ITERATE makes the arm transition (R85, R86). -/
def Arms (s : State) : Prop := s.armState = .disarmed ∧ Low s ∧ YawArms s

/-- An ITERATE makes a disarm transition (R85, R89). -/
def Disarms (s : State) : Prop := s.armState ≠ .disarmed ∧ Low s ∧ YawDisarms s

/-- An ITERATE makes the start transition (R85, R90). -/
def Starts (s : State) : Prop := s.armState = .armedNotStarted ∧ ¬ Low s

/-- An ITERATE runs the gesture step (43_gesture.md R95): it ends its arming step Disarmed, with low throttle. -/
def GestureRuns (s : State) : Prop := Low s ∧ (s.armState = .disarmed ∧ ¬ YawArms s ∨ Disarms s)

/-- The gesture deadline has passed (R96). -/
abbrev GestureLate (s : State) : Prop :=
  s.gestState ≠ .start ∧
    ((s.inputs.nowUs.toNat : Int) - (s.gestT0.toNat : Int)) % 4294967296 > (s.params.gestureTimeoutUs : Int)

/-- The stick the gesture watches (R97). -/
def watched (p : Params) (inp : Inputs) : Int :=
  match p.gestureAxis with
  | .roll => inp.roll.toInt
  | .pitch => inp.pitch.toInt
  | .yaw => inp.yaw.toInt

/-- The watched stick has the side `sd` (R97). -/
def OnSide (p : Params) (inp : Inputs) (sd : GestState) : Prop :=
  (sd = .low ∧ watched p inp < -p.gestureT) ∨ (sd = .high ∧ watched p inp > p.gestureT)

/-- The watched stick is in the deadband (R97). -/
def InDeadband (p : Params) (inp : Inputs) : Prop :=
  -p.gestureT ≤ watched p inp ∧ watched p inp ≤ p.gestureT

/-- One slot of the waveform (46_freq_encoder.md R125). -/
def slotWave (bit : Bool) : List WaveElem :=
  [.drive .data bit, .drive .clk true, .waitMin, .drive .clk false, .waitMin]

/-- The waveform of a frame (R125): 1 + 25 * 5 + 1 elements, bit 24 first (30_encoding.md R67). -/
def frameWave (f : Frame) : List WaveElem :=
  [.drive .cs false] ++ (List.range 25).flatMap (fun t => slotWave (f.getLsbD (24 - t))) ++ [.drive .cs true]

/-- What holds between commands of a well-formed instance. -/
structure Inv (s : State) : Prop where
  /-- 00_scope.md R6. -/
  params_wf : s.params.wf = true
  /-- 44_pid.md R109. -/
  integ_bounded : ∀ a : Axis, -s.params.limit ≤ (s.integ.get a).toInt ∧ (s.integ.get a).toInt ≤ s.params.limit
  /-- 10_state.md R24. -/
  dt_bounded : 0 ≤ s.dt.toInt ∧ s.dt.toInt ≤ s.params.dtMax
  /-- 45_mixer.md R115. -/
  motor_bounded : ∀ m : Fin 4,
    s.params.minMotorOutput ≤ (s.motor.get m).toInt ∧ (s.motor.get m).toInt ≤ ((2 ^ s.params.shift : Nat) : Int)
  /-- 45_mixer.md R116. -/
  motor_idle : s.armState ≠ .armedStarted ∨ s.lowThr = true →
    ∀ m : Fin 4, (s.motor.get m).toInt = s.params.minMotorOutput
  /-- 10_state.md R25. -/
  gest_count : s.gestCount.toNat < s.params.gestureN
  /-- 43_gesture.md R96, R98, R99: the count is 0 exactly in Start. -/
  gest_start : s.gestState = .start ↔ s.gestCount = 0#3
  /-- 43_gesture.md R95: no gesture goes on while armed. -/
  gest_armed : s.armState ≠ .disarmed → s.gestState = .start
  /-- 20_memory.md R46: arming happens only inside an ITERATE, which locks. -/
  armed_locked : s.armState ≠ .disarmed → s.cfgLock = true
  /-- 10_state.md R20: while armed, the active gains are the preset of the flight mode. -/
  gains_loaded : s.armState ≠ .disarmed → s.act = s.preset.get s.flightMode
  /-- 20_memory.md R47, `AIRFRAME` bits 31:3. -/
  airframe_reserved : s.airframe.toNat < 8
  /-- 20_memory.md R47, `MIX_SIGNS` bits 31:12. -/
  mixSigns_reserved : s.mixSigns.toNat < 4096
  /-- 10_state.md R28. -/
  lines_idle : s.vtxCs = true ∧ s.vtxClk = false ∧ s.vtxData = false
  /-- 10_state.md R29. -/
  tx_idle : s.tx = none
  /-- 10_state.md R27: the sentinel, or a channel that was sent. -/
  last_freq : s.lastFreq = 0#32 ∨
    (5725 ≤ s.lastFreq.toNat ∧ s.lastFreq.toNat ≤ 5875 ∧ (s.lastFreq.toNat - 5725) % 5 = 0)
  /-- 10_state.md R39: the sampled bundle has the auxiliary channels 0 to `N_AUX - 1`. -/
  aux_count : s.inputs.aux.length = s.params.nAux
  /-- 46_freq_encoder.md R128. -/
  freq_result : s.freqResult = .sent ∨ s.freqResult = .unchanged → s.lastFreq ≠ 0#32

end Sys2Proof.Safety
end

