-- ==== Sys2Proof/Certificates/Slice0/Obligations.lean ====
section
/-! DEFINITION. The statements for the provers, in the order of the spec: arithmetic, the command word, a step, reset,
the register space, the units of ITERATE, FREQ_REQ, and what holds along every run. -/

open Sys2Proof Sys2Proof.Machine Sys2Proof.Safety

/-! ### Arithmetic -/

/-- 00_scope.md R10: each primitive, by what it computes. -/
def Obligations.ArithmeticPrimitives : Prop :=
  (∀ v : Int, -2147483648 ≤ wrap32 v ∧ wrap32 v < 2147483648 ∧ ∃ k : Int, wrap32 v = v + k * 4294967296) ∧
  (∀ v : Int, 0 ≤ wrapu32 v ∧ wrapu32 v < 4294967296 ∧ ∃ k : Int, wrapu32 v = v + k * 4294967296) ∧
  (∀ (v : Int) (k : Nat), asr v k * 2 ^ k ≤ v ∧ v < (asr v k + 1) * 2 ^ k) ∧
  (∀ (p : Params) (a b : Int), fpmul p a b = wrap32 (asr (a * b) p.shift)) ∧
  (∀ v lo hi : Int, lo ≤ hi →
    (v < lo → clamp v lo hi = lo) ∧ (hi < v → clamp v lo hi = hi) ∧ (lo ≤ v → v ≤ hi → clamp v lo hi = v)) ∧
  (∀ n v : Nat, rev n v < 2 ^ n ∧ ∀ i, i < n → (rev n v).testBit i = v.testBit (n - 1 - i))

/-! ### The command word -/

/-- 30_encoding.md R58 to R60: words written out from the encoding table, one for each command, and an illegal word for
each reason. -/
def Obligations.WrittenWordsDecode : Prop :=
  decode 0x00000000#32 = .instr .nop ∧ decode 0x00000221#32 = .instr (.cfgWrite 0x22#8) ∧
  decode 0x00000212#32 = .instr (.cfgRead 0x21#8) ∧ decode 0x00000003#32 = .instr .iterate ∧
  decode 0x00000004#32 = .instr .freqReq ∧ decode 0x00000005#32 = .instr .clrStatus ∧
  decode 0x00000006#32 = .illegal .badOp ∧ decode 0x80000003#32 = .illegal .reservedBits ∧
  decode 0x00000013#32 = .illegal .strayAddr

/-- Decoding and encoding agree: a word decodes to an instruction exactly when it is that instruction's encoding, for
every instruction and every address (30_encoding.md R58, R59, R61). -/
def Obligations.DecodeEncodeAgree : Prop :=
  ∀ (w : Word) (i : Instr), i.wf = true → (decode w = .instr i ↔ w = encode i)

/-- 30_encoding.md R59: the opcode map by its match and mask, and every word matching at most one row. -/
def Obligations.OpcodeMapByMatchAndMask : Prop :=
  (∀ w : Word,
    (w &&& 0xFFFFFFFF#32 = 0x00000000#32 ↔ decode w = .instr .nop) ∧
    (w &&& 0xFFFFF00F#32 = 0x00000001#32 ↔ decode w = .instr (.cfgWrite (w.extractLsb' 4 8))) ∧
    (w &&& 0xFFFFF00F#32 = 0x00000002#32 ↔ decode w = .instr (.cfgRead (w.extractLsb' 4 8))) ∧
    (w &&& 0xFFFFFFFF#32 = 0x00000003#32 ↔ decode w = .instr .iterate) ∧
    (w &&& 0xFFFFFFFF#32 = 0x00000004#32 ↔ decode w = .instr .freqReq) ∧
    (w &&& 0xFFFFFFFF#32 = 0x00000005#32 ↔ decode w = .instr .clrStatus) ∧
    ((∃ r, decode w = .illegal r) ↔ ∀ r ∈ opcodeRows, r.accepts w = false)) ∧
  ∀ (w : Word) (r r' : OpRow), r ∈ opcodeRows → r' ∈ opcodeRows → r.accepts w = true → r'.accepts w = true → r = r'

/-- 30_encoding.md R60: which words are illegal, and that such a word sets `ILLEGAL_CMD` and changes no register, no line
and not `DOUT`. That the per-command outputs are empty afterwards follows R69 (log 9, the model's reading). -/
def Obligations.IllegalWordOnlySetsIllegalCmd : Prop :=
  ∀ (s : State) (inp : Inputs) (rest : List HostAct), s.params.wf = true → s.host = .command inp :: rest →
    (6 ≤ inp.cmd.toNat % 16 ∨ inp.cmd.toNat / 4096 ≠ 0 ∨
      (inp.cmd.toNat / 16 % 256 ≠ 0 ∧ inp.cmd.toNat % 16 ≠ 1 ∧ inp.cmd.toNat % 16 ≠ 2)) →
    step s = .next { s with
      inputs := sampleBundle s.params inp, host := rest, events := [], waveform := [], illegalCmd := true }

/-! ### A step -/

/-- 40_commands.md R69: a step takes one command of the host, samples its bundle (10_state.md R39), clears the per-command
outputs, and runs the meaning of the decoded word. -/
def Obligations.StepRunsDecodedCommand : Prop :=
  ∀ (s : State) (inp : Inputs) (rest : List HostAct) (i : Instr), s.params.wf = true →
    s.host = .command inp :: rest → decode inp.cmd = .instr i →
    step s = exec i { s with inputs := sampleBundle s.params inp, host := rest, events := [], waveform := [] }

/-- 60_exceptions.md R130: no step and no command stops, whatever the state and the inputs, in a well-formed
instance. -/
def Obligations.EveryStepAndCommandCompletes : Prop :=
  (∀ s : State, s.params.wf = true → ∃ t, step s = .next t) ∧
  ∀ (i : Instr) (s : State), ∃ t, exec i s = .next t

/-- The step refuses exactly the instances that violate a condition of 00_scope.md R6. That it is the step which refuses
them, the rule saying only that a model does, is the model's reading (log 6). -/
def Obligations.IllFormedInstanceRefused : Prop :=
  ∀ s : State, step s = .refused .illFormedParams ↔
    ¬ (s.params.w = 32 ∧ 1 ≤ s.params.shift ∧ s.params.shift ≤ 30 ∧
      0 ≤ s.params.limit ∧ s.params.limit ≤ 2 ^ 31 - 1 ∧
      0 ≤ s.params.minMotorOutput ∧ s.params.minMotorOutput ≤ 2 ^ s.params.shift ∧
      0 ≤ s.params.decayAlpha ∧ s.params.decayAlpha ≤ 2 ^ s.params.shift ∧
      0 ≤ s.params.gestureT ∧ 0 ≤ s.params.extreme ∧ 1 ≤ s.params.gestureN ∧ s.params.gestureN ≤ 8 ∧
      s.params.dtMax = 2 ^ s.params.shift / 50 ∧
      s.params.frameTable.length = 31 ∧ ∀ n, n < 31 → s.params.frameTable.getD n 0#25 = frameOf n)

/-- 60_exceptions.md R142: with nothing from the host, the FCC holds its state, outputs included. -/
def Obligations.SilentHostHoldsState : Prop :=
  ∀ s : State, s.params.wf = true → s.host = [] → step s = .next s

/-- 70_reset_and_hazards.md R143, the whole table. -/
def Obligations.ResetSetsEveryRegister : Prop :=
  ∀ (s : State) (now : Word) (rest : List HostAct), s.params.wf = true → s.host = .reset now :: rest →
    ∃ t, step s = .next t ∧
      t.armState = .disarmed ∧ t.flightMode = .level ∧ (∀ g a, t.act.get g a = 0#32) ∧
      (∀ a, t.integ.get a = 0#32 ∧ t.pidOut.get a = 0#32) ∧ t.lastTick = now ∧ t.dt = 0#32 ∧
      t.gestState = .start ∧ t.gestCount = 0#3 ∧ t.gestT0 = 0#32 ∧
      (∀ m, (t.motor.get m).toInt = s.params.minMotorOutput) ∧ t.lastFreq = 0#32 ∧
      t.vtxCs = true ∧ t.vtxClk = false ∧ t.vtxData = false ∧ t.tx = none ∧
      (∀ md g a, (t.preset.get md).get g a = 0#32) ∧ t.airframe = 0x00000001#32 ∧ t.mixSigns = 0x00000C1D#32 ∧
      t.idleOffset = 0#32 ∧ t.gsf.toInt = 2 ^ s.params.shift ∧ statusWord t = 0x00000000#32 ∧ t.dout = 0#32 ∧
      t.events = [] ∧ t.waveform = []

/-! ### NOP, CLR_STATUS and the register space -/

/-- 40_commands.md R70: NOP completes and changes nothing; a step that takes it leaves every register and line, and
empties the two lists. A word with `OP` 0 and any other bit set is illegal. -/
def Obligations.NopChangesNothing : Prop :=
  (∀ s : State, exec .nop s = .next s) ∧
  (∀ (s : State) (inp : Inputs) (rest : List HostAct), s.params.wf = true → s.host = .command inp :: rest →
    inp.cmd = 0x00000000#32 →
    step s = .next { s with inputs := sampleBundle s.params inp, host := rest, events := [], waveform := [] }) ∧
  ∀ w : Word, w.toNat % 16 = 0 → w ≠ 0x00000000#32 → ∃ r, decode w = .illegal r

/-- 40_commands.md R73: the word 5 is CLR_STATUS, and CLR_STATUS completes, clears the two sticky bits, and changes nothing else, in the state and in
the status word. -/
def Obligations.ClrStatusClearsStickyBits : Prop :=
  decode 0x00000005#32 = .instr .clrStatus ∧
  ∀ s : State, ∃ t, exec .clrStatus s = .next t ∧ t = { s with cfgErr := false, illegalCmd := false } ∧
    statusWord t = statusWord s &&& 0xFFFFCFFF#32

/-- 10_state.md R35: the status word, field by field. -/
def Obligations.StatusWordLayout : Prop :=
  ∀ s : State,
    ((statusWord s).extractLsb' 0 2 = 0#2 ↔ s.armState = .disarmed) ∧
    ((statusWord s).extractLsb' 0 2 = 1#2 ↔ s.armState = .armedNotStarted) ∧
    ((statusWord s).extractLsb' 0 2 = 2#2 ↔ s.armState = .armedStarted) ∧
    ((statusWord s).extractLsb' 2 2 = 0#2 ↔ s.flightMode = .level) ∧
    ((statusWord s).extractLsb' 2 2 = 1#2 ↔ s.flightMode = .semiAcro) ∧
    ((statusWord s).extractLsb' 2 2 = 2#2 ↔ s.flightMode = .fullAcro) ∧
    ((statusWord s).extractLsb' 4 2 = 0#2 ↔ s.gestState = .start) ∧
    ((statusWord s).extractLsb' 4 2 = 1#2 ↔ s.gestState = .low) ∧
    ((statusWord s).extractLsb' 4 2 = 2#2 ↔ s.gestState = .high) ∧
    (statusWord s).extractLsb' 6 3 = s.gestCount ∧
    (statusWord s).getLsbD 9 = s.lowThr ∧ (statusWord s).getLsbD 10 = s.failsafe ∧
    (statusWord s).getLsbD 11 = s.cfgLock ∧ (statusWord s).getLsbD 12 = s.cfgErr ∧
    (statusWord s).getLsbD 13 = s.illegalCmd ∧
    ((statusWord s).extractLsb' 14 2 = 0#2 ↔ s.freqResult = .noneYet) ∧
    ((statusWord s).extractLsb' 14 2 = 1#2 ↔ s.freqResult = .sent) ∧
    ((statusWord s).extractLsb' 14 2 = 2#2 ↔ s.freqResult = .unchanged) ∧
    ((statusWord s).extractLsb' 14 2 = 3#2 ↔ s.freqResult = .rejected) ∧
    (statusWord s).extractLsb' 16 16 = 0#16

/-- 40_commands.md R72 over the map of 20_memory.md R43: the words of CFG_READ; CFG_READ of every address completes; a mapped one gives its
register in `DOUT`, whatever the lock; an unmapped one gives 0 and `CFG_ERR` (R44). Nothing else changes. -/
def Obligations.CfgReadReturnsRegister : Prop :=
  (∀ addr : RegAddr, decode (0#20 ++ addr ++ 2#4) = .instr (.cfgRead addr)) ∧
  ∀ s : State,
    (∀ (md : FlightMode) (g : GainTerm) (a : Axis), exec (.cfgRead (BitVec.ofNat 8 (9 * md.idx + 3 * g.idx + a.idx))) s =
      .next { s with dout := (s.preset.get md).get g a }) ∧
    exec (.cfgRead 0x20#8) s = .next { s with dout := s.airframe } ∧
    exec (.cfgRead 0x21#8) s = .next { s with dout := s.mixSigns } ∧
    exec (.cfgRead 0x22#8) s = .next { s with dout := s.idleOffset } ∧
    exec (.cfgRead 0x23#8) s = .next { s with dout := s.gsf } ∧
    (∀ (g : GainTerm) (a : Axis), exec (.cfgRead (BitVec.ofNat 8 (0x30 + 3 * g.idx + a.idx))) s =
      .next { s with dout := s.act.get g a }) ∧
    (∀ a : Axis, exec (.cfgRead (BitVec.ofNat 8 (0x40 + a.idx))) s = .next { s with dout := s.integ.get a }) ∧
    exec (.cfgRead 0x43#8) s = .next { s with dout := s.lastFreq } ∧
    exec (.cfgRead 0x44#8) s = .next { s with dout := s.lastTick } ∧
    exec (.cfgRead 0x45#8) s = .next { s with dout := s.dt } ∧
    exec (.cfgRead 0x46#8) s = .next { s with dout := s.gestT0 } ∧
    exec (.cfgRead 0x47#8) s = .next { s with dout := statusWord s } ∧
    (∀ m : Fin 4, exec (.cfgRead (BitVec.ofNat 8 (0x48 + m.val))) s = .next { s with dout := s.motor.get m }) ∧
    (∀ a : Axis, exec (.cfgRead (BitVec.ofNat 8 (0x4C + a.idx))) s = .next { s with dout := s.pidOut.get a }) ∧
    ∀ addr : RegAddr,
      (0x1B ≤ addr.toNat ∧ addr.toNat ≤ 0x1F) ∨ (0x24 ≤ addr.toNat ∧ addr.toNat ≤ 0x2F) ∨
      (0x39 ≤ addr.toNat ∧ addr.toNat ≤ 0x3F) ∨ 0x4F ≤ addr.toNat →
      exec (.cfgRead addr) s = .next { s with dout := 0#32, cfgErr := true }

/-- 40_commands.md R71: the words of CFG_WRITE; CFG_WRITE of every address completes. Unlocked, a configuration register takes `DIN` (reserved
bits 0, 20_memory.md R47) and nothing else changes; an unmapped or read-only address, or the lock, only sets `CFG_ERR`
(R44 to R46). -/
def Obligations.CfgWriteStoresOrRefuses : Prop :=
  (∀ addr : RegAddr, decode (0#20 ++ addr ++ 1#4) = .instr (.cfgWrite addr)) ∧
  ∀ s : State,
    (s.cfgLock = false →
      (∀ (md : FlightMode) (g : GainTerm) (a : Axis), ∃ t,
        exec (.cfgWrite (BitVec.ofNat 8 (9 * md.idx + 3 * g.idx + a.idx))) s = .next t ∧
        t = { s with preset := t.preset } ∧
        ∀ md' g' a', (t.preset.get md').get g' a' =
          if md' = md ∧ g' = g ∧ a' = a then s.inputs.din else (s.preset.get md').get g' a') ∧
      exec (.cfgWrite 0x20#8) s = .next { s with airframe := BitVec.ofNat 32 (s.inputs.din.toNat % 8) } ∧
      exec (.cfgWrite 0x21#8) s = .next { s with mixSigns := BitVec.ofNat 32 (s.inputs.din.toNat % 4096) } ∧
      exec (.cfgWrite 0x22#8) s = .next { s with idleOffset := s.inputs.din } ∧
      exec (.cfgWrite 0x23#8) s = .next { s with gsf := s.inputs.din }) ∧
    ∀ addr : RegAddr, s.cfgLock = true ∨ (0x1B ≤ addr.toNat ∧ addr.toNat ≤ 0x1F) ∨ 0x24 ≤ addr.toNat →
      exec (.cfgWrite addr) s = .next { s with cfgErr := true }

/-- Read after write through the register space (20_memory.md R43, R47, R53, R56): a configuration write while unlocked
is read back by the next command, less the reserved bits, and no other address but `STATUS` reads otherwise than
before. -/
def Obligations.CfgWriteReadBack : Prop :=
  ∀ (s t : State) (addr : RegAddr), exec (.cfgWrite addr) s = .next t →
    (s.cfgLock = false → addr.toNat ≤ 0x1A ∨ addr = 0x22#8 ∨ addr = 0x23#8 →
      exec (.cfgRead addr) t = .next { t with dout := s.inputs.din }) ∧
    (s.cfgLock = false → addr = 0x20#8 → exec (.cfgRead addr) t = .next { t with dout := s.inputs.din &&& 0x7#32 }) ∧
    (s.cfgLock = false → addr = 0x21#8 → exec (.cfgRead addr) t = .next { t with dout := s.inputs.din &&& 0xFFF#32 }) ∧
    ∀ other : RegAddr, other ≠ addr → other ≠ 0x47#8 → regRead t other = regRead s other

/-! ### ITERATE: timing -/

/-- 41_timing.md R76: the tick of an ITERATE. -/
def Obligations.IterateTick : Prop :=
  ∀ s : State, s.params.wf = true → ∃ t, exec .iterate s = .next t ∧ t.lastTick = s.inputs.nowUs ∧
    t.dt.toInt =
      min (((s.inputs.nowUs.toNat : Int) - (s.lastTick.toNat : Int)) % 2 ^ 32 * (s.params.dtFactor : Int) /
        2 ^ (32 - s.params.shift)) s.params.dtMax

/-- 41_timing.md R79: the bound of `DT`, for every timer value. -/
def Obligations.TickNeverExceedsBound : Prop :=
  ∀ s : State, s.params.wf = true → ∃ t, exec .iterate s = .next t ∧ 0 ≤ t.dt.toInt ∧ t.dt.toInt ≤ s.params.dtMax

/-- 41_timing.md R80 with the reference parameters: where `DT` is 0, where it is 1310, and that it never decreases in
`elapsed`. -/
def Obligations.TickThresholdsAtReference : Prop :=
  (∀ (s : State) (tDwell nAux : Nat), s.params = Params.referenceWith tDwell nAux → ∃ t, exec .iterate s = .next t ∧
    (t.dt.toInt = 0 ↔ ((s.inputs.nowUs.toNat : Int) - (s.lastTick.toNat : Int)) % 2 ^ 32 ≤ 15) ∧
    (t.dt.toInt = 1310 ↔ 19989 ≤ ((s.inputs.nowUs.toNat : Int) - (s.lastTick.toNat : Int)) % 2 ^ 32)) ∧
  ∀ (s s' : State) (tDwell nAux tDwell' nAux' : Nat), s.params = Params.referenceWith tDwell nAux →
    s'.params = Params.referenceWith tDwell' nAux' →
    ((s.inputs.nowUs.toNat : Int) - (s.lastTick.toNat : Int)) % 2 ^ 32 ≤
      ((s'.inputs.nowUs.toNat : Int) - (s'.lastTick.toNat : Int)) % 2 ^ 32 →
    ∃ t t', exec .iterate s = .next t ∧ exec .iterate s' = .next t' ∧ t.dt.toInt ≤ t'.dt.toInt

/-! ### ITERATE: arming -/

/-- 42_arming.md R85: the transitions of an ITERATE, at most one, and what a state and input with none leaves. -/
def Obligations.ArmStateTransitions : Prop :=
  ∀ s : State, ∃ t, exec .iterate s = .next t ∧
    (Arms s → t.armState = .armedNotStarted) ∧
    (Disarms s → t.armState = .disarmed ∧ t.flightMode = s.flightMode ∧ t.act = s.act) ∧
    (Starts s → t.armState = .armedStarted ∧ t.flightMode = s.flightMode ∧ t.act = s.act) ∧
    (¬ Arms s → ¬ Disarms s → ¬ Starts s →
      t.armState = s.armState ∧ t.flightMode = s.flightMode ∧ t.act = s.act)

/-- 42_arming.md R86 to R88: what the arm transition sets: the mode from the roll stick (bit 2 of `AIRFRAME` is
`FULLACRO_ROLL_DIR`), the gains of that mode, the gesture back to Start, one event. -/
def Obligations.ArmingSelectsModeAndLoadsGains : Prop :=
  ∀ s : State, s.params.wf = true → Arms s → ∃ t, exec .iterate s = .next t ∧ t.armState = .armedNotStarted ∧
    (s.airframe.getLsbD 2 = false →
      (s.inputs.roll.toInt > s.params.extreme → t.flightMode = .fullAcro) ∧
      (s.inputs.roll.toInt < -s.params.extreme → t.flightMode = .semiAcro)) ∧
    (s.airframe.getLsbD 2 = true →
      (s.inputs.roll.toInt < -s.params.extreme → t.flightMode = .fullAcro) ∧
      (s.inputs.roll.toInt > s.params.extreme → t.flightMode = .semiAcro)) ∧
    (-s.params.extreme ≤ s.inputs.roll.toInt → s.inputs.roll.toInt ≤ s.params.extreme → t.flightMode = .level) ∧
    (∀ g a, t.act.get g a = (s.preset.get t.flightMode).get g a) ∧
    t.gestState = .start ∧ t.gestCount = 0#3 ∧ t.gestT0 = s.gestT0 ∧ t.events = s.events ++ [.calArm]

/-- 42_arming.md R94, over all steps: the only ways between the arm states, each with its condition and what came with
it: a reset; or an ITERATE that makes the arm, the start or the disarm transition (R86, R90, R89). -/
def Obligations.ArmStateEdges : Prop :=
  ∀ s t : State, step s = .next t →
    t.armState = s.armState ∨
    ((∃ now rest, s.host = .reset now :: rest) ∧ s.armState ≠ .disarmed ∧ t.armState = .disarmed ∧
      ∀ m : Fin 4, t.motor.get m = toWord s.params.minMotorOutput) ∨
    ∃ inp rest, s.host = .command inp :: rest ∧ inp.cmd = 0x00000003#32 ∧
      ((Arms { s with inputs := inp } ∧ t.armState = .armedNotStarted ∧ t.events = [.calArm] ∧ t.lowThr = true ∧
          t.act = t.preset.get t.flightMode) ∨
       (Starts { s with inputs := inp } ∧ t.armState = .armedStarted ∧ t.lowThr = false ∧
          t.flightMode = s.flightMode ∧ t.act = s.act) ∨
       (Disarms { s with inputs := inp } ∧ t.armState = .disarmed ∧ t.lowThr = true ∧ t.flightMode = s.flightMode ∧
          t.act = s.act ∧ ∀ m : Fin 4, t.motor.get m = toWord s.params.minMotorOutput))

/-- 10_state.md R19, R20, 42_arming.md R87, R88, over all steps: the flight mode and the active gains change only on the
arm edge or by reset, so they are constant within an armed session. -/
def Obligations.GainsChangeOnlyByArming : Prop :=
  ∀ s t : State, step s = .next t → (∀ now rest, s.host ≠ .reset now :: rest) →
    ¬ (s.armState = .disarmed ∧ t.armState = .armedNotStarted) → t.flightMode = s.flightMode ∧ t.act = s.act

/-- 42_arming.md R93: ITERATE with the failsafe input at any level gives the same next state but for
`STATUS.FAILSAFE`, which mirrors it (`inputs` is the sampled bundle, the model's own). -/
def Obligations.FailsafeOnlyMirrored : Prop :=
  ∀ (s : State) (b : Bool), ∃ t, exec .iterate s = .next t ∧ t.failsafe = s.inputs.failsafeIn ∧
    exec .iterate { s with inputs := { s.inputs with failsafeIn := b } } =
      .next { t with failsafe := b, inputs := { s.inputs with failsafeIn := b } }

/-- 10_state.md R39: a command samples the auxiliary channels 0 to `N_AUX - 1`, each as the host drives it, and no rule
reads them: a step with other values on them gives the same next state but for the sampled bundle, the model's own. -/
def Obligations.AuxInputsNeverRead : Prop :=
  ∀ (s t : State) (inp : Inputs) (rest : List HostAct) (aux : List Word), s.host = .command inp :: rest →
    step s = .next t →
    t.inputs.aux.length = s.params.nAux ∧ (∀ i, i < s.params.nAux → i < inp.aux.length → t.inputs.aux[i]? = inp.aux[i]?) ∧
    step { s with host := .command { inp with aux := aux } :: rest } =
      .next { t with inputs := sampleBundle s.params { inp with aux := aux } }

/-- 30_encoding.md R63: a command other than CFG_WRITE and FREQ_REQ ignores `DIN`: a step with another value on it gives
the same next state but for the sampled bundle, the model's own. -/
def Obligations.DataWordIgnoredByOtherCommands : Prop :=
  ∀ (s t : State) (inp : Inputs) (rest : List HostAct) (v : Word), s.host = .command inp :: rest →
    step s = .next t → inp.cmd.toNat % 16 ≠ 1 → inp.cmd.toNat % 16 ≠ 4 →
    step { s with host := .command { inp with din := v } :: rest } =
      .next { t with inputs := sampleBundle s.params { inp with din := v } }

/-! ### ITERATE: gesture -/

/-- 43_gesture.md R95: when the gesture step runs, and that the three registers and the events stay when it does not
(the arm transition returns the gesture to Start). -/
def Obligations.GestureRunsOnlyDisarmedAndLow : Prop :=
  ∀ s : State, ∃ t, exec .iterate s = .next t ∧
    (GestureRuns s ↔ t.armState = .disarmed ∧ Low s) ∧
    (¬ GestureRuns s → ¬ Arms s →
      t.gestState = s.gestState ∧ t.gestCount = s.gestCount ∧ t.gestT0 = s.gestT0 ∧ t.events = s.events) ∧
    (Arms s → ¬ GestureRuns s ∧ t.gestState = .start ∧ t.gestCount = 0#3 ∧ t.gestT0 = s.gestT0)

/-- 43_gesture.md R96 to R98, where the count does not reach `GESTURE_N`: the deadline first, then the crossing. -/
def Obligations.GestureCountsCrossings : Prop :=
  ∀ s : State, s.params.wf = true → GestureRuns s → s.gestCount.toNat < s.params.gestureN →
    ∃ t, exec .iterate s = .next t ∧
      (InDeadband s.params s.inputs → t.events = s.events ∧ t.gestT0 = s.gestT0 ∧
        (GestureLate s → t.gestState = .start ∧ t.gestCount = 0#3) ∧
        (¬ GestureLate s → t.gestState = s.gestState ∧ t.gestCount = s.gestCount)) ∧
      ∀ sd, OnSide s.params s.inputs sd →
        (s.gestState = .start ∨ GestureLate s → 1 < s.params.gestureN →
          t.events = s.events ∧ t.gestState = sd ∧ t.gestCount = 1#3 ∧ t.gestT0 = s.inputs.nowUs) ∧
        (s.gestState ≠ .start → ¬ GestureLate s → sd = s.gestState →
          t.events = s.events ∧ t.gestState = s.gestState ∧ t.gestCount = s.gestCount ∧ t.gestT0 = s.gestT0) ∧
        (s.gestState ≠ .start → ¬ GestureLate s → sd ≠ s.gestState → s.gestCount.toNat + 1 < s.params.gestureN →
          t.events = s.events ∧ t.gestState = sd ∧ t.gestCount.toNat = s.gestCount.toNat + 1 ∧
            t.gestT0 = s.inputs.nowUs)

/-- 43_gesture.md R99: the crossing that makes the count reach `GESTURE_N` emits the two events in order and returns the
detector to Start, `GEST_T0` keeping the time of that crossing. With `GESTURE_N` = 8 this rests on log 11 (DEDUCED): the count
is compared before it is stored in three bits. -/
def Obligations.GestureFiresAtN : Prop :=
  ∀ (s : State) (sd : GestState), s.params.wf = true → GestureRuns s → OnSide s.params s.inputs sd →
    ((s.gestState = .start ∨ GestureLate s) ∧ s.params.gestureN = 1) ∨
      (s.gestState ≠ .start ∧ ¬ GestureLate s ∧ sd ≠ s.gestState ∧ s.gestCount.toNat + 1 = s.params.gestureN) →
    ∃ t, exec .iterate s = .next t ∧ t.events = s.events ++ [.calGesture, .save] ∧ t.gestState = .start ∧
      t.gestCount = 0#3 ∧ t.gestT0 = s.inputs.nowUs

/-- 43_gesture.md R100 along a run: from Start while Disarmed, `GESTURE_N` enabled ITERATEs whose samples alternate sides,
each within the deadline of the one before, fire the gesture at the last one and emit nothing before it. With
`GESTURE_N` = 8 this rests on log 11: the count is compared before it is stored in three bits. -/
def Obligations.AlternatingCrossingsFireOnce : Prop :=
  ∀ (s : State) (ins : Nat → Inputs) (rest : List HostAct), Inv s → s.armState = .disarmed → s.gestState = .start →
    s.host = (List.range s.params.gestureN).map (fun i => .command (ins i)) ++ rest →
    (∀ i, i < s.params.gestureN → (ins i).cmd = 0x00000003#32 ∧ Low { s with inputs := ins i } ∧
      ¬ YawArms { s with inputs := ins i } ∧ ∃ sd, OnSide s.params (ins i) sd) →
    (∀ i, i + 1 < s.params.gestureN → ∃ sd sd', OnSide s.params (ins i) sd ∧ OnSide s.params (ins (i + 1)) sd' ∧
      sd ≠ sd' ∧
      (((ins (i + 1)).nowUs.toNat : Int) - ((ins i).nowUs.toNat : Int)) % 4294967296 ≤ s.params.gestureTimeoutUs) →
    (∀ k, 0 < k → k < s.params.gestureN → ∃ t, Host.Core.run Sys2Proof.core k s = .next t ∧ t.events = [] ∧
      t.gestCount.toNat = k) ∧
    ∃ t, Host.Core.run Sys2Proof.core s.params.gestureN s = .next t ∧ t.events = [.calGesture, .save] ∧
      t.gestState = .start ∧ t.gestCount = 0#3

/-! ### ITERATE: PID -/

/-- 44_pid.md R102: the integrators. `t.dt` is the `DT` of the same ITERATE. -/
def Obligations.IntegratorStep : Prop :=
  ∀ s : State, s.params.wf = true → ∃ t, exec .iterate s = .next t ∧ ∀ a : Axis,
    (Low s → (t.integ.get a).toInt =
      wrap32 ((s.integ.get a).toInt - fpmul s.params (s.integ.get a).toInt s.params.decayAlpha)) ∧
    (¬ Low s → (t.integ.get a).toInt =
      clamp ((s.integ.get a).toInt + fpmul s.params (s.inputs.err.get a).toInt t.dt.toInt)
        (-s.params.limit) s.params.limit)

/-- 44_pid.md R102, R109: the decay takes an integrator toward 0 and never past it, whatever its value. -/
def Obligations.DecayGoesTowardZero : Prop :=
  ∀ s : State, s.params.wf = true → Low s → ∃ t, exec .iterate s = .next t ∧ ∀ a : Axis,
    (0 ≤ (s.integ.get a).toInt → 0 ≤ (t.integ.get a).toInt ∧ (t.integ.get a).toInt ≤ (s.integ.get a).toInt) ∧
    ((s.integ.get a).toInt < 0 → (s.integ.get a).toInt ≤ (t.integ.get a).toInt ∧ (t.integ.get a).toInt ≤ 0)

/-- 44_pid.md R103 to R106: each control output, from the integrator and the gains of the same ITERATE, the gain schedule
and the throttle output (45_mixer.md R111), in every arm state (R108). Bit 0 of `AIRFRAME` is `YAW_INVERT`. -/
def Obligations.ControlOutputPerAxis : Prop :=
  ∀ s : State, ∃ t, exec .iterate s = .next t ∧ ∀ a : Axis,
    let p := s.params
    let thrOut := clamp (asr s.inputs.thr.toInt 1 + half p + s.idleOffset.toInt) 0 (one p)
    let gsm := wrap32 (fpmul p (wrap32 (thrOut - half p)) s.gsf.toInt + one p)
    let u0 := wrap32 (fpmul p (s.inputs.err.get a).toInt (t.act.get .kp a).toInt -
      fpmul p (s.inputs.gyro.get a).toInt (t.act.get .kd a).toInt +
      asr (fpmul p (t.integ.get a).toInt (t.act.get .ki a).toInt) p.kiShift)
    let u1 := fpmul p u0 gsm
    (t.pidOut.get a).toInt = if a = .yaw ∧ s.airframe.getLsbD 0 = true then wrap32 (-u1) else u1

/-- 44_pid.md R107: a lane reads nothing of another lane: another error, gyro rate, integrator and gain on axis `b`
leaves the results of axis `a`. -/
def Obligations.PidLanesIndependent : Prop :=
  ∀ (s : State) (a b : Axis) (e g i k : Word) (term : GainTerm), b ≠ a →
    ∃ t t', exec .iterate s = .next t ∧
      exec .iterate { s with
        integ := s.integ.set b i
        act := s.act.set term b k
        inputs := { s.inputs with err := s.inputs.err.set b e, gyro := s.inputs.gyro.set b g } } = .next t' ∧
      t'.integ.get a = t.integ.get a ∧ t'.pidOut.get a = t.pidOut.get a

/-- 44_pid.md R104, 45_mixer.md R111: the throttle output is in `[0, ONE]` whatever the stick and the idle offset, and
with `GSF` = `ONE` the multiplier runs linearly from `HALF` to `ONE + HALF`, with no wrap. -/
def Obligations.GainScheduleLinearAtUnitFactor : Prop :=
  ∀ (p : Params) (thr idle : Word), p.wf = true →
    0 ≤ throttleOutput p thr idle ∧ throttleOutput p thr idle ≤ one p ∧
    gainSchedule p (throttleOutput p thr idle) (one p) = throttleOutput p thr idle + half p

/-! ### ITERATE: mixer -/

/-- 45_mixer.md R112 to R114: the motors after an ITERATE: the clamped mix while the gate is open, the floor
otherwise. -/
def Obligations.MotorsFollowMixAndGate : Prop :=
  ∀ s : State, s.params.wf = true → ∃ t, exec .iterate s = .next t ∧ ∀ m : Fin 4,
    let sgn := fun j : Nat => if s.mixSigns.getLsbD (3 * m.val + j) = true then (-1 : Int) else 1
    let thrOut := clamp (asr s.inputs.thr.toInt 1 + half s.params + s.idleOffset.toInt) 0 (one s.params)
    let acc := thrOut + sgn 0 * t.pidOut.roll.toInt + sgn 1 * t.pidOut.pitch.toInt + sgn 2 * t.pidOut.yaw.toInt
    (t.armState = .armedStarted ∧ ¬ Low s →
      (t.motor.get m).toInt = clamp acc s.params.minMotorOutput (one s.params)) ∧
    (t.armState ≠ .armedStarted ∨ Low s → (t.motor.get m).toInt = s.params.minMotorOutput)

/-- 45_mixer.md R117: with zero PID outputs and the gate open, every motor is the clamped throttle output; with the
reference parameters and `IDLE_OFFSET >= -4096` it is the throttle output itself. -/
def Obligations.EqualMotorsAtZeroPid : Prop :=
  ∀ s t : State, s.params.wf = true → exec .iterate s = .next t → (∀ a, t.pidOut.get a = 0#32) →
    t.armState = .armedStarted → ¬ Low s →
    (∀ m, (t.motor.get m).toInt =
      clamp (throttleOutput s.params s.inputs.thr s.idleOffset) s.params.minMotorOutput (one s.params)) ∧
    (∀ tDwell nAux, s.params = Params.referenceWith tDwell nAux → -4096 ≤ s.idleOffset.toInt →
      ∀ m, (t.motor.get m).toInt = throttleOutput s.params s.inputs.thr s.idleOffset)

/-- 40_commands.md R74, the frame: what ITERATE sets directly (`CFG_LOCK`, `LOW_THR`, `FAILSAFE`) and what it leaves: the
instance, the configuration, the error bits, `FREQ_RESULT`, `DOUT`, the transmitter, the waveform, and every configuration
address of the register space. -/
def Obligations.IterateFrame : Prop :=
  ∀ s : State, ∃ t, exec .iterate s = .next t ∧ t.cfgLock = true ∧ (t.lowThr = true ↔ Low s) ∧
    t.failsafe = s.inputs.failsafeIn ∧ t.params = s.params ∧ t.preset = s.preset ∧ t.airframe = s.airframe ∧
    t.mixSigns = s.mixSigns ∧ t.idleOffset = s.idleOffset ∧ t.gsf = s.gsf ∧ t.cfgErr = s.cfgErr ∧
    t.illegalCmd = s.illegalCmd ∧ t.freqResult = s.freqResult ∧ t.dout = s.dout ∧ t.lastFreq = s.lastFreq ∧
    t.vtxCs = s.vtxCs ∧ t.vtxClk = s.vtxClk ∧ t.vtxData = s.vtxData ∧ t.tx = s.tx ∧ t.waveform = s.waveform ∧
    t.inputs = s.inputs ∧ t.host = s.host ∧
    ∀ addr : RegAddr, addr.toNat < 0x30 ∨ addr = 0x43#8 → regRead t addr = regRead s addr

/-! ### FREQ_REQ -/

/-- 46_freq_encoder.md R128, R119, R125, R127: the word 4 is FREQ_REQ, and FREQ_REQ completes for every `DIN`; rejected, unchanged and sent, each with all it
changes; the waveform is that of the closed-form frame. -/
def Obligations.FreqRequestOutcomes : Prop :=
  decode 0x00000004#32 = .instr .freqReq ∧
  ∀ s : State, s.params.wf = true →
    (¬ (5725 ≤ s.inputs.din.toNat ∧ s.inputs.din.toNat ≤ 5875 ∧ (s.inputs.din.toNat - 5725) % 5 = 0) →
      exec .freqReq s = .next { s with freqResult := .rejected }) ∧
    (5725 ≤ s.inputs.din.toNat → s.inputs.din.toNat ≤ 5875 → (s.inputs.din.toNat - 5725) % 5 = 0 →
      (s.inputs.din = s.lastFreq → exec .freqReq s = .next { s with freqResult := .unchanged }) ∧
      (s.inputs.din ≠ s.lastFreq → exec .freqReq s = .next { s with
        freqResult := .sent
        lastFreq := s.inputs.din
        tx := none
        vtxCs := true
        vtxClk := false
        vtxData := false
        waveform := s.waveform ++ frameWave (frameOf ((s.inputs.din.toNat - 5725) / 5)) }))

/-- 46_freq_encoder.md R120, R121: the fields by the source's formulas on the frequency. -/
def Obligations.FieldsByTheSourceFormulas : Prop :=
  ∀ f : Nat, 5725 ≤ f → f ≤ 5875 → (f - 5725) % 5 = 0 →
    (fieldA ((f - 5725) / 5) : Int) = (21 - 3 * ((f : Int) - 5725) / 5) % 128 ∧
    fieldB ((f - 5725) / 5) =
      (if f < 5765 then 60 + (f - 5725) / 5 * 2 + 1 - f % 2 else 60 + ((f - 5725) / 5 - 1) * 2 + f % 2) % 64

/-- 30_encoding.md R66, R67: what transmission slot `t` carries, for every channel. -/
def Obligations.FrameBitsInWireOrder : Prop :=
  ∀ n : Nat,
    (∀ t, t < 6 → (frameOf n).getLsbD (24 - t) = [true, false, false, false, true, false].getD t false) ∧
    (∀ t, 6 ≤ t → t < 13 → (frameOf n).getLsbD (24 - t) = (fieldA n).testBit (t - 6)) ∧
    (∀ t, 13 ≤ t → t < 19 → (frameOf n).getLsbD (24 - t) = (fieldB n).testBit (t - 13)) ∧
    ∀ t, 19 ≤ t → t < 25 → (frameOf n).getLsbD (24 - t) = [true, false, false, false, true, false].getD (t - 19) false

/-- 46_freq_encoder.md R123: the printed table and the closed form agree on all 31 channels. -/
def Obligations.PrintedTableIsClosedForm : Prop :=
  Config.printedFrameTable.length = 31 ∧ ∀ n, n < 31 → Config.printedFrameTable.getD n 0#25 = frameOf n

/-- 46_freq_encoder.md R129: requesting the same valid frequency twice in a row transmits at most once, and exactly once
when it differs from the last one sent. -/
def Obligations.SameFrequencyTransmitsOnce : Prop :=
  ∀ (s : State) (i1 i2 : Inputs) (rest : List HostAct), s.params.wf = true →
    s.host = .command i1 :: .command i2 :: rest → i1.cmd = 0x00000004#32 → i2.cmd = 0x00000004#32 → i2.din = i1.din →
    5725 ≤ i1.din.toNat → i1.din.toNat ≤ 5875 → (i1.din.toNat - 5725) % 5 = 0 →
    ∃ t1 t2, step s = .next t1 ∧ step t1 = .next t2 ∧
      t1.waveform = (if i1.din = s.lastFreq then [] else frameWave (frameOf ((i1.din.toNat - 5725) / 5))) ∧
      t1.lastFreq = i1.din ∧ t2.waveform = [] ∧ t2.freqResult = .unchanged ∧ t2.lastFreq = i1.din

/-- 70_reset_and_hazards.md R144, 46_freq_encoder.md R129: reset emits no waveform, and the first valid request after it
transmits, whatever was sent before the reset and whatever commands `mid` come in between (legal or not, none of them a
valid FREQ_REQ); until then no step emits a waveform and `LAST_FREQ` is 0. -/
def Obligations.FirstRequestAfterResetTransmits : Prop :=
  ∀ (s : State) (now : Word) (mid : List Inputs) (inp : Inputs) (rest : List HostAct), s.params.wf = true →
    s.host = .reset now :: (mid.map HostAct.command ++ .command inp :: rest) →
    (∀ c ∈ mid, c.cmd = 0x00000004#32 →
      ¬ (5725 ≤ c.din.toNat ∧ c.din.toNat ≤ 5875 ∧ (c.din.toNat - 5725) % 5 = 0)) →
    inp.cmd = 0x00000004#32 → 5725 ≤ inp.din.toNat → inp.din.toNat ≤ 5875 → (inp.din.toNat - 5725) % 5 = 0 →
    (∀ k, k ≤ mid.length → ∃ t, Host.Core.run Sys2Proof.core (k + 1) s = .next t ∧ t.waveform = [] ∧
      t.lastFreq = 0#32 ∧ t.vtxCs = true ∧ t.vtxClk = false ∧ t.vtxData = false) ∧
    ∃ t, Host.Core.run Sys2Proof.core (mid.length + 2) s = .next t ∧
      t.waveform = frameWave (frameOf ((inp.din.toNat - 5725) / 5)) ∧ t.freqResult = .sent ∧ t.lastFreq = inp.din

/-- 46_freq_encoder.md R126, 70_reset_and_hazards.md R148: a transmitting FREQ_REQ takes at least `50 * T_DWELL`, whatever
the OPEN parameter is; one that does not transmit adds no wait. -/
def Obligations.FreqRequestDwellTime : Prop :=
  ∀ s : State, s.params.wf = true → ∃ t, exec .freqReq s = .next t ∧
    (t.freqResult = .sent → minDuration s.params.tDwell t.waveform =
      minDuration s.params.tDwell s.waveform + 50 * s.params.tDwell) ∧
    (t.freqResult ≠ .sent → t.waveform = s.waveform)

/-! ### Over all steps and along every run -/

/-- 10_state.md R40: which command may emit events, and which lists; which may emit a waveform, and what it is. That both
lists are empty after an illegal word is the model's reading of 40_commands.md R69 before 30_encoding.md R60 (log 9). -/
def Obligations.PerCommandOutputs : Prop :=
  ∀ (s t : State) (inp : Inputs) (rest : List HostAct), s.host = .command inp :: rest → step s = .next t →
    (t.events = [] ∨ inp.cmd = 0x00000003#32 ∧ (t.events = [.calArm] ∨ t.events = [.calGesture, .save])) ∧
    (t.waveform = [] ∨ inp.cmd = 0x00000004#32 ∧ ∃ n, n < 31 ∧ t.waveform = frameWave (frameOf n))

/-- 10_state.md R41, 70_reset_and_hazards.md R148: a command other than ITERATE writes no register of the control loop,
and only ITERATE locks the configuration. -/
def Obligations.OnlyIterateMovesTheControlLoop : Prop :=
  ∀ (s t : State) (inp : Inputs) (rest : List HostAct), s.host = .command inp :: rest → step s = .next t →
    inp.cmd ≠ 0x00000003#32 →
    t.armState = s.armState ∧ t.flightMode = s.flightMode ∧ t.act = s.act ∧ t.integ = s.integ ∧ t.pidOut = s.pidOut ∧
    t.lastTick = s.lastTick ∧ t.dt = s.dt ∧ t.gestState = s.gestState ∧ t.gestCount = s.gestCount ∧
    t.gestT0 = s.gestT0 ∧ t.motor = s.motor ∧ t.lowThr = s.lowThr ∧ t.failsafe = s.failsafe ∧ t.cfgLock = s.cfgLock

/-- 10_state.md R41: the host changes a configuration register only by CFG_WRITE while unlocked, or by reset. -/
def Obligations.ConfigWrittenOnlyByCfgWrite : Prop :=
  ∀ s t : State, step s = .next t →
    ¬ (t.preset = s.preset ∧ t.airframe = s.airframe ∧ t.mixSigns = s.mixSigns ∧ t.idleOffset = s.idleOffset ∧
      t.gsf = s.gsf) →
    (∃ now rest, s.host = .reset now :: rest) ∨
    (s.cfgLock = false ∧ ∃ inp rest addr, s.host = .command inp :: rest ∧ decode inp.cmd = .instr (.cfgWrite addr))

/-- 60_exceptions.md R131: a sticky bit stays until CLR_STATUS or reset. -/
def Obligations.StickyBitsStay : Prop :=
  ∀ s t : State, step s = .next t →
    (∀ now rest, s.host ≠ .reset now :: rest) →
    (∀ inp rest, s.host = .command inp :: rest → inp.cmd ≠ 0x00000005#32) →
    (s.cfgErr = true → t.cfgErr = true) ∧ (s.illegalCmd = true → t.illegalCmd = true)

/-- The invariant holds after reset, for every well-formed instance, every timer value and every host; the reference
instance at power-up is one of them (70_reset_and_hazards.md R143). -/
def Obligations.ResetMeetsInvariant : Prop :=
  (∀ (p : Params) (now : Word) (host : List HostAct), p.wf = true → Inv (State.resetWith p now host)) ∧ Inv State.reset

/-- Every step keeps the invariant, from every state that meets it, whatever the host does. With `GESTURE_N` = 8 the clause
that ties a zero gesture count to Start rests on log 11 (DEDUCED). -/
def Obligations.StepKeepsInvariant : Prop :=
  ∀ s t : State, Inv s → step s = .next t → Inv t ∧ t.params = s.params

/-- 44_pid.md R109: for every sequence of commands, inputs and resets, the integrators stay within the bound between
commands, in every well-formed instance. -/
def Obligations.IntegratorsBoundedInEveryRun : Prop :=
  ∀ (p : Params) (now : Word) (host : List HostAct) (k : Nat), p.wf = true →
    ∃ t, Host.Core.run Sys2Proof.core k (State.resetWith p now host) = .next t ∧
      ∀ a : Axis, -p.limit ≤ (t.integ.get a).toInt ∧ (t.integ.get a).toInt ≤ p.limit

/-- 45_mixer.md R115, and what R116 gives between commands: along every run the motor outputs stay in range, and are at the
floor whenever the arm state is not ArmedStarted or the last ITERATE saw low throttle. -/
def Obligations.MotorsSafeInEveryRun : Prop :=
  ∀ (p : Params) (now : Word) (host : List HostAct) (k : Nat), p.wf = true →
    ∃ t, Host.Core.run Sys2Proof.core k (State.resetWith p now host) = .next t ∧ ∀ m : Fin 4,
      p.minMotorOutput ≤ (t.outputs.motor.get m).toInt ∧ (t.outputs.motor.get m).toInt ≤ 2 ^ p.shift ∧
      (t.armState ≠ .armedStarted ∨ t.lowThr = true → (t.outputs.motor.get m).toInt = p.minMotorOutput)

/-- 20_memory.md R46, 70_reset_and_hazards.md R145: once locked, the configuration stays locked and unchanged along every
run in which the host does not reset. -/
def Obligations.ConfigFrozenOnceLocked : Prop :=
  ∀ (k : Nat) (s : State), s.params.wf = true → s.cfgLock = true → (∀ now, HostAct.reset now ∉ s.host) →
    ∃ t, Host.Core.run Sys2Proof.core k s = .next t ∧ t.cfgLock = true ∧ t.preset = s.preset ∧
      t.airframe = s.airframe ∧ t.mixSigns = s.mixSigns ∧ t.idleOffset = s.idleOffset ∧ t.gsf = s.gsf
end

