-- ==== Sys2Proof/Laws/Arith.lean ====
section
/-! SUPPORT. The lemmas of the arithmetic primitives, and what a well-formed parameter set gives. -/

namespace Sys2Proof.Machine

theorem wrap32_range (v : Int) : -2147483648 ≤ wrap32 v ∧ wrap32 v ≤ 2147483647 := by
  unfold wrap32; omega

theorem wrap32_of_range {v : Int} (h : -2147483648 ≤ v) (h' : v ≤ 2147483647) : wrap32 v = v := by
  unfold wrap32; omega

@[simp] theorem wrap32_wrap32 (v : Int) : wrap32 (wrap32 v) = wrap32 v :=
  wrap32_of_range (wrap32_range v).1 (wrap32_range v).2

@[simp] theorem toWord_toInt (v : Int) : (toWord v).toInt = wrap32 v := by
  unfold toWord wrap32
  rw [BitVec.toInt_ofInt, Int.bmod_def]
  omega

theorem toWord_toInt_of_range {v : Int} (h : -2147483648 ≤ v) (h' : v ≤ 2147483647) : (toWord v).toInt = v := by
  rw [toWord_toInt, wrap32_of_range h h']

theorem word_toInt_range (w : Word) : -2147483648 ≤ w.toInt ∧ w.toInt ≤ 2147483647 := by
  have h1 := BitVec.le_toInt w
  have h2 := BitVec.toInt_lt (x := w)
  norm_num at h1 h2
  omega

@[simp] theorem toWord_of_toInt (w : Word) : toWord w.toInt = w := by
  unfold toWord
  exact BitVec.ofInt_toInt

@[simp] theorem wrap32_word (w : Word) : wrap32 w.toInt = w.toInt :=
  wrap32_of_range (word_toInt_range w).1 (word_toInt_range w).2

theorem clamp_bounds {lo hi : Int} (v : Int) (h : lo ≤ hi) : lo ≤ clamp v lo hi ∧ clamp v lo hi ≤ hi := by
  unfold clamp; split <;> [omega; split <;> omega]

theorem clamp_of_mem {v lo hi : Int} (h : lo ≤ v) (h' : v ≤ hi) : clamp v lo hi = v := by
  unfold clamp; split <;> [omega; split <;> omega]

theorem asr_nonneg {v : Int} (h : 0 ≤ v) (k : Nat) : 0 ≤ asr v k :=
  Int.ediv_nonneg h (Int.natCast_nonneg _)

theorem one_pos (p : Params) : 0 < one p := by
  unfold one; positivity

/-- A factor between 0 and `ONE` takes a non-negative number to between 0 and itself. -/
theorem asr_mul_between_of_nonneg {p : Params} {i a : Int} (hi : 0 ≤ i) (ha : 0 ≤ a) (ha' : a ≤ one p) :
    0 ≤ asr (i * a) p.shift ∧ asr (i * a) p.shift ≤ i := by
  have ho := one_pos p
  refine ⟨asr_nonneg (mul_nonneg hi ha) _, ?_⟩
  have : i * a / one p ≤ i * one p / one p := Int.ediv_le_ediv ho (mul_le_mul_of_nonneg_left ha' hi)
  rwa [Int.mul_ediv_cancel _ ho.ne'] at this

/-- A factor between 0 and `ONE` takes a negative number to between itself and 0. -/
theorem asr_mul_between_of_nonpos {p : Params} {i a : Int} (hi : i ≤ 0) (ha : 0 ≤ a) (ha' : a ≤ one p) :
    i ≤ asr (i * a) p.shift ∧ asr (i * a) p.shift ≤ 0 := by
  have ho := one_pos p
  have h1 : i * one p / one p ≤ i * a / one p := Int.ediv_le_ediv ho (by nlinarith)
  have h2 : i * a / one p ≤ 0 / one p := Int.ediv_le_ediv ho (by nlinarith)
  rw [Int.mul_ediv_cancel _ ho.ne'] at h1
  rw [Int.zero_ediv] at h2
  exact ⟨h1, h2⟩

/-- The conditions of R6 that a proof uses, as facts about integers. -/
theorem Params.wf_facts {p : Params} (h : p.wf = true) :
    (1 ≤ p.shift ∧ p.shift ≤ 30) ∧ (0 ≤ p.limit ∧ p.limit ≤ 2147483647) ∧
    (0 ≤ p.minMotorOutput ∧ p.minMotorOutput ≤ one p) ∧ (0 ≤ p.decayAlpha ∧ p.decayAlpha ≤ one p) ∧
    0 ≤ p.gestureT ∧ 0 ≤ p.extreme ∧ (1 ≤ p.gestureN ∧ p.gestureN ≤ 8) ∧ p.dtMax = one p / 50 ∧
    p.frameTable = closedFormTable := by
  simp only [Params.wf, Bool.and_eq_true, decide_eq_true_eq, beq_iff_eq] at h
  tauto

theorem Params.one_le_of_wf {p : Params} (h : p.wf = true) : one p ≤ 1073741824 := by
  obtain ⟨⟨-, h30⟩, -⟩ := Params.wf_facts h
  unfold one
  exact_mod_cast (Nat.pow_le_pow_right (by norm_num) h30 : 2 ^ p.shift ≤ 2 ^ 30)

theorem Params.one_eq_two_half {p : Params} (h : p.wf = true) : one p = 2 * half p := by
  obtain ⟨⟨h1, -⟩, -⟩ := Params.wf_facts h
  unfold one half
  obtain ⟨k, hk⟩ : ∃ k, p.shift = k + 1 := ⟨p.shift - 1, by omega⟩
  rw [hk, Nat.add_sub_cancel, pow_succ]
  push_cast
  ring

theorem Params.dtMax_range {p : Params} (h : p.wf = true) : 0 ≤ p.dtMax ∧ p.dtMax ≤ 2147483647 := by
  have h1 := Params.one_le_of_wf h
  have h2 := one_pos p
  obtain ⟨-, -, -, -, -, -, -, hd, -⟩ := Params.wf_facts h
  omega

end Sys2Proof.Machine
end

