-- ==== Sys2Proof/Laws/Decode.lean ====
section
/-! SUPPORT. The fields of a command word, the shape of every word, and what the decoder says in terms of the fields. -/

namespace Sys2Proof

/-- The bits of three joined fields. -/
theorem joined_getLsbD (r : BitVec 20) (a : RegAddr) (o : BitVec 4) (i : Nat) :
    BitVec.getLsbD (w := 32) (r ++ a ++ o) i =
      if i < 4 then o.getLsbD i else if i < 12 then a.getLsbD (i - 4) else r.getLsbD (i - 12) := by
  change BitVec.getLsbD (w := 20 + 8 + 4) (r ++ a ++ o) i = _
  rw [BitVec.getLsbD_append, BitVec.getLsbD_append]
  by_cases h : i < 4
  · simp [h]
  · by_cases h' : i < 12
    · have : i - 4 < 8 := by omega
      simp [h, h', this]
    · have : ¬ i - 4 < 8 := by omega
      have e : i - 4 - 8 = i - 12 := by omega
      simp [h, h', this, e]

@[simp] theorem opField_joined (r : BitVec 20) (a : RegAddr) (o : BitVec 4) : opField (r ++ a ++ o) = o := by
  apply BitVec.eq_of_getLsbD_eq
  intro i hi
  simp [opField, joined_getLsbD, hi]

@[simp] theorem addrField_joined (r : BitVec 20) (a : RegAddr) (o : BitVec 4) : addrField (r ++ a ++ o) = a := by
  apply BitVec.eq_of_getLsbD_eq
  intro i hi
  have h1 : 4 + i < 12 := by omega
  have h2 : 4 + i - 4 = i := by omega
  simp [addrField, joined_getLsbD, hi, h1, h2]

@[simp] theorem rsvdField_joined (r : BitVec 20) (a : RegAddr) (o : BitVec 4) : rsvdField (r ++ a ++ o) = r := by
  apply BitVec.eq_of_getLsbD_eq
  intro i hi
  have h1 : ¬ 12 + i < 12 := by omega
  have h2 : ¬ 12 + i < 4 := by omega
  have h3 : 12 + i - 12 = i := by omega
  simp [rsvdField, joined_getLsbD, hi, h1, h2, h3]

/-- A word is put together from its three fields. -/
theorem word_of_fields (w : Word) : rsvdField w ++ addrField w ++ opField w = w := by
  apply BitVec.eq_of_getLsbD_eq
  intro i hi
  rw [joined_getLsbD]
  simp only [opField, addrField, rsvdField, BitVec.getLsbD_extractLsb']
  split
  · simp [*]
  · split
    · have h1 : i - 4 < 8 := by omega
      have h2 : 4 + (i - 4) = i := by omega
      simp [h1, h2]
    · have h1 : i - 12 < 20 := by omega
      have h2 : 12 + (i - 12) = i := by omega
      simp [h1, h2]

@[simp] theorem opField_commandWord (a : RegAddr) (op : BitVec 4) : opField (commandWord a op) = op := opField_joined ..

@[simp] theorem addrField_commandWord (a : RegAddr) (op : BitVec 4) : addrField (commandWord a op) = a :=
  addrField_joined ..

@[simp] theorem rsvdField_commandWord (a : RegAddr) (op : BitVec 4) : rsvdField (commandWord a op) = 0#20 :=
  rsvdField_joined ..

/-- A word whose reserved bits are 0 is the command word of its other two fields. -/
theorem commandWord_of_fields {w : Word} (h : rsvdField w = 0#20) : commandWord (addrField w) (opField w) = w := by
  have := word_of_fields w
  rwa [h] at this

theorem opField_toNat (w : Word) : (opField w).toNat = w.toNat % 16 := by
  simp [opField, BitVec.extractLsb'_toNat]

theorem addrField_toNat (w : Word) : (addrField w).toNat = w.toNat / 16 % 256 := by
  simp [addrField, BitVec.extractLsb'_toNat, Nat.shiftRight_eq_div_pow]

theorem rsvdField_toNat (w : Word) : (rsvdField w).toNat = w.toNat / 4096 := by
  have := w.isLt
  simp [rsvdField, BitVec.extractLsb'_toNat, Nat.shiftRight_eq_div_pow]
  omega

end Sys2Proof
end

