-- ==== Sys2Proof/Laws/Flags.lean ====
section
/-! SUPPORT. The status word bit by bit, and the codes of its fields read back. -/

namespace Sys2Proof.Machine

/-- Each bit of the status word (10_state.md R35). -/
theorem statusWord_getLsbD (s : State) (i : Nat) : (statusWord s).getLsbD i =
    if i < 2 then s.armState.code.getLsbD i
    else if i < 4 then (modeCode s.flightMode).getLsbD (i - 2)
    else if i < 6 then s.gestState.code.getLsbD (i - 4)
    else if i < 9 then s.gestCount.getLsbD (i - 6)
    else if i < 10 then s.lowThr
    else if i < 11 then s.failsafe
    else if i < 12 then s.cfgLock
    else if i < 13 then s.cfgErr
    else if i < 14 then s.illegalCmd
    else if i < 16 then s.freqResult.code.getLsbD (i - 14)
    else false := by
  unfold statusWord
  change BitVec.getLsbD (w := 16 + 2 + 1 + 1 + 1 + 1 + 1 + 3 + 2 + 2 + 2) _ i = _
  simp only [BitVec.getLsbD_append, BitVec.getLsbD_ofBool]
  by_cases h : i < 16
  · interval_cases i <;> simp
  · have e : ∀ n, n ≤ 16 → ¬ i < n := by omega
    simp only [e 2 (by omega), e 4 (by omega), e 6 (by omega), e 9 (by omega), e 10 (by omega), e 11 (by omega),
      e 12 (by omega), e 13 (by omega), e 14 (by omega), h, if_false]
    have d : ∀ n m, n + m ≤ 16 → ¬ i - n < m := by omega
    simp only [Nat.sub_sub]
    simp [d]

end Sys2Proof.Machine
end

