-- ==== Sys2Proof/Laws/Frame.lean ====
section
/-! SUPPORT. The bits of a closed-form frame, and the frame table of a well-formed instance. -/

namespace Sys2Proof.Machine

theorem rev_lt (n v : Nat) : rev n v < 2 ^ n := by
  induction n generalizing v with
  | zero => simp [rev]
  | succ n ih =>
    have h1 := ih (v / 2)
    have h2 : v % 2 ≤ 1 := by omega
    have h3 : v % 2 * 2 ^ n ≤ 1 * 2 ^ n := Nat.mul_le_mul_right _ h2
    rw [rev, pow_succ]
    omega

theorem rev_testBit (n v i : Nat) (h : i < n) : (rev n v).testBit i = v.testBit (n - 1 - i) := by
  induction n generalizing v i with
  | zero => omega
  | succ n ih =>
    rw [rev, Nat.mul_comm, Nat.testBit_two_pow_mul_add _ (rev_lt n _)]
    by_cases hi : i < n
    · rw [if_pos hi, ih _ _ hi, Nat.testBit_div_two, show n - 1 - i + 1 = n + 1 - 1 - i by omega]
    · obtain rfl : i = n := by omega
      rw [if_neg hi]
      simp

/-- The four fields of a frame by bit number (30_encoding.md R66). -/
theorem frameOf_getLsbD (n i : Nat) : (frameOf n).getLsbD i =
    if i < 6 then framePreamble.getLsbD i
    else if i < 12 then (fieldB n).testBit (11 - i)
    else if i < 19 then (fieldA n).testBit (18 - i)
    else framePreamble.getLsbD (i - 19) := by
  unfold frameOf
  change BitVec.getLsbD (w := 6 + 7 + 6 + 6) _ i = _
  rw [BitVec.getLsbD_append, BitVec.getLsbD_append, BitVec.getLsbD_append]
  by_cases h1 : i < 6
  · simp [h1]
  by_cases h2 : i < 12
  · have e : i - 6 < 6 := by omega
    rw [if_neg h1, if_pos e, if_neg h1, if_pos h2, BitVec.getLsbD_ofNat, rev_testBit _ _ _ e,
      show 6 - 1 - (i - 6) = 11 - i by omega]
    simp [e]
  by_cases h3 : i < 19
  · have e1 : ¬ i - 6 < 6 := by omega
    have e2 : i - 6 - 6 < 7 := by omega
    rw [if_neg h1, if_neg e1, if_pos e2, if_neg h1, if_neg h2, if_pos h3, BitVec.getLsbD_ofNat,
      rev_testBit _ _ _ e2, show 7 - 1 - (i - 6 - 6) = 18 - i by omega]
    simp [e2]
  · have e1 : ¬ i - 6 < 6 := by omega
    have e2 : ¬ i - 6 - 6 < 7 := by omega
    rw [if_neg h1, if_neg e1, if_neg e2, if_neg h1, if_neg h2, if_neg h3,
      show i - 6 - 6 - 7 = i - 19 by omega]

/-- The trailer ends in 0 (46_freq_encoder.md R127). -/
@[simp] theorem frameOf_lastBit (n : Nat) : (frameOf n).getLsbD 0 = false := by
  rw [frameOf_getLsbD]; rfl

theorem validFreq_iff (f : Nat) : validFreq f = true ↔ 5725 ≤ f ∧ f ≤ 5875 ∧ (f - 5725) % 5 = 0 := by
  simp [validFreq, and_assoc]

theorem channelIndex_lt {f : Nat} (h : f ≤ 5875) : channelIndex f < 31 := by
  unfold channelIndex; omega

/-- The frame a well-formed instance sends for a channel is the closed-form frame (00_scope.md R6). -/
theorem frameTable_getD {p : Params} (h : p.wf = true) {n : Nat} (hn : n < 31) :
    p.frameTable.getD n 0#25 = frameOf n := by
  obtain ⟨-, -, -, -, -, -, -, -, ht⟩ := Params.wf_facts h
  rw [ht, closedFormTable, List.getD_eq_getElem _ _ (by simpa using hn)]
  simp

end Sys2Proof.Machine
end

