-- ==== Sys2Proof/Laws/Operands.lean ====
section
/-! SUPPORT. The lemmas of the operand forms: reading after writing an indexed register, the configuration bits, and the
register map. -/

namespace Sys2Proof

@[simp] theorem Axes.get_set_same {α : Type} (v : Axes α) (a : Axis) (x : α) : (v.set a x).get a = x := by
  cases a <;> rfl

theorem Axes.get_set_of_ne {α : Type} (v : Axes α) {a b : Axis} (x : α) (h : b ≠ a) :
    (v.set a x).get b = v.get b := by
  cases a <;> cases b <;> first | rfl | exact absurd rfl h

theorem Axes.get_set {α : Type} (v : Axes α) (a b : Axis) (x : α) :
    (v.set a x).get b = if b = a then x else v.get b := by
  cases a <;> cases b <;> rfl

theorem Axes.ext_get {α : Type} {v w : Axes α} (h : ∀ a, v.get a = w.get a) : v = w := by
  cases v; cases w
  have h1 := h .roll
  have h2 := h .pitch
  have h3 := h .yaw
  simp_all [Axes.get]

@[simp] theorem Quad.get_ofFn {α : Type} (f : Fin 4 → α) (m : Fin 4) : (Quad.ofFn f).get m = f m := by
  fin_cases m <;> rfl

namespace Machine

theorem Gains.get_set (g : Gains) (t t' : GainTerm) (a a' : Axis) (x : Word) :
    (g.set t a x).get t' a' = if t' = t ∧ a' = a then x else g.get t' a' := by
  cases t <;> cases t' <;> cases a <;> cases a' <;> rfl

theorem PresetBank.get_set (b : PresetBank) (m m' : FlightMode) (g : Gains) :
    (b.set m g).get m' = if m' = m then g else b.get m' := by
  cases m <;> cases m' <;> rfl

theorem airframeStored_eq (v : Word) : airframeStored v = BitVec.ofNat 32 (v.toNat % 8) := by
  apply BitVec.eq_of_toNat_eq
  simp only [airframeStored, BitVec.toNat_setWidth, BitVec.extractLsb'_toNat, BitVec.toNat_ofNat]
  norm_num

theorem mixSignsStored_eq (v : Word) : mixSignsStored v = BitVec.ofNat 32 (v.toNat % 4096) := by
  apply BitVec.eq_of_toNat_eq
  simp only [mixSignsStored, BitVec.toNat_setWidth, BitVec.extractLsb'_toNat, BitVec.toNat_ofNat]
  norm_num

theorem airframeStored_lt (v : Word) : (airframeStored v).toNat < 8 := by
  rw [airframeStored_eq, BitVec.toNat_ofNat]; omega

theorem mixSignsStored_lt (v : Word) : (mixSignsStored v).toNat < 4096 := by
  rw [mixSignsStored_eq, BitVec.toNat_ofNat]; omega

/-- The map reads back the address of every register. -/
@[simp] theorem regAt_addr (r : Reg) : regAt r.addr = some r := by
  cases r with
  | preset m t a => cases m <;> cases t <;> cases a <;> rfl
  | act t a => cases t <;> cases a <;> rfl
  | motor m => fin_cases m <;> rfl
  | _ => first | rfl | (rename_i a; cases a <;> rfl)

/-- A mapped address is the address of its register. -/
theorem addr_of_regAt {addr : RegAddr} {r : Reg} (h : regAt addr = some r) : r.addr = addr := by
  have all : ∀ a : RegAddr, (match regAt a with | none => true | some r => r.addr == a) = true := by decide
  have := all addr
  rw [h] at this
  simpa using this

/-- Two registers at one address are one register. -/
theorem Reg.addr_injective {r r' : Reg} (h : r.addr = r'.addr) : r = r' := by
  have := regAt_addr r
  rw [h, regAt_addr] at this
  exact (Option.some.inj this).symm

/-- The unmapped addresses of 20_memory.md R43, read off the table. -/
theorem regAt_eq_none_iff (addr : RegAddr) : regAt addr = none ↔
    (0x1B ≤ addr.toNat ∧ addr.toNat ≤ 0x1F) ∨ (0x24 ≤ addr.toNat ∧ addr.toNat ≤ 0x2F) ∨
    (0x39 ≤ addr.toNat ∧ addr.toNat ≤ 0x3F) ∨ 0x4F ≤ addr.toNat := by
  revert addr; decide

end Machine

end Sys2Proof
end

