-- ==== Sys2Proof/Laws/PerInstr.lean ====
section
/-! SUPPORT. Per-instruction laws: the encoding of an instruction is a word its own row of the opcode map accepts
(30_encoding.md R59), and is legal (R60). -/

namespace Sys2Proof.Laws.EncodingRow

/-- The encoding matches the row, and its reserved field is 0. -/
def Statement (i : Instr) : Prop := (rowOf i).accepts (encode i) = true ∧ rsvdField (encode i) = 0#20

/-- A word whose low nibble is the pattern's, and whose reserved bits are 0, matches an address row. -/
theorem addressRow (addr : RegAddr) (op : BitVec 4) :
    commandWord addr op &&& 0xFFFFF00F#32 = op.setWidth 32 := by
  apply BitVec.eq_of_getLsbD_eq
  intro k hk
  rw [BitVec.getLsbD_and, commandWord, joined_getLsbD, BitVec.getLsbD_setWidth]
  have mask : ∀ k : Fin 32, (0xFFFFF00F#32).getLsbD k.val = (decide (k.val < 4) || decide (12 ≤ k.val)) := by decide
  rw [mask ⟨k, hk⟩]
  by_cases h1 : k < 4
  · simp [h1, hk]
  · by_cases h2 : k < 12
    · simp [h1, h2, BitVec.getLsbD_of_ge op k (by omega), Nat.not_le.2 h2]
    · simp [h1, h2, BitVec.getLsbD_of_ge op k (by omega)]

theorem nop : Statement .nop := by unfold Statement; decide

theorem cfgWrite (addr : RegAddr) : Statement (.cfgWrite addr) := by
  refine ⟨?_, rsvdField_commandWord _ _⟩
  simp [rowOf, encode, OpRow.accepts, addressRow]

theorem cfgRead (addr : RegAddr) : Statement (.cfgRead addr) := by
  refine ⟨?_, rsvdField_commandWord _ _⟩
  simp [rowOf, encode, OpRow.accepts, addressRow]

theorem iterate : Statement .iterate := by unfold Statement; decide

theorem freqReq : Statement .freqReq := by unfold Statement; decide

theorem clrStatus : Statement .clrStatus := by unfold Statement; decide

end Sys2Proof.Laws.EncodingRow
end

