-- ==== Sys2Proof/Laws/State.lean ====
section
/-! SUPPORT. For each named update of the state, what every field is afterwards: the updated fields with their new value,
every other field as before. A conjunction tagged simp is one rewrite rule for each field, so no later proof unfolds a
record update. -/

namespace Sys2Proof.Machine

@[simp] theorem setCfgErr_fields (s : State) :
    (setCfgErr s).params = s.params ∧ (setCfgErr s).armState = s.armState ∧
    (setCfgErr s).flightMode = s.flightMode ∧ (setCfgErr s).act = s.act ∧ (setCfgErr s).integ = s.integ ∧
    (setCfgErr s).pidOut = s.pidOut ∧ (setCfgErr s).lastTick = s.lastTick ∧ (setCfgErr s).dt = s.dt ∧
    (setCfgErr s).gestState = s.gestState ∧ (setCfgErr s).gestCount = s.gestCount ∧
    (setCfgErr s).gestT0 = s.gestT0 ∧ (setCfgErr s).motor = s.motor ∧ (setCfgErr s).lastFreq = s.lastFreq ∧
    (setCfgErr s).vtxCs = s.vtxCs ∧ (setCfgErr s).vtxClk = s.vtxClk ∧ (setCfgErr s).vtxData = s.vtxData ∧
    (setCfgErr s).tx = s.tx ∧ (setCfgErr s).preset = s.preset ∧ (setCfgErr s).airframe = s.airframe ∧
    (setCfgErr s).mixSigns = s.mixSigns ∧ (setCfgErr s).idleOffset = s.idleOffset ∧ (setCfgErr s).gsf = s.gsf ∧
    (setCfgErr s).lowThr = s.lowThr ∧ (setCfgErr s).failsafe = s.failsafe ∧ (setCfgErr s).cfgLock = s.cfgLock ∧
    (setCfgErr s).cfgErr = true ∧ (setCfgErr s).illegalCmd = s.illegalCmd ∧
    (setCfgErr s).freqResult = s.freqResult ∧ (setCfgErr s).dout = s.dout ∧ (setCfgErr s).events = s.events ∧
    (setCfgErr s).waveform = s.waveform ∧ (setCfgErr s).inputs = s.inputs ∧ (setCfgErr s).host = s.host :=
  ⟨rfl, rfl, rfl, rfl, rfl, rfl, rfl, rfl, rfl, rfl, rfl, rfl, rfl, rfl, rfl, rfl, rfl, rfl, rfl, rfl, rfl, rfl, rfl, rfl, rfl, rfl, rfl, rfl, rfl, rfl, rfl, rfl, rfl⟩

@[simp] theorem setIllegalCmd_fields (s : State) :
    (setIllegalCmd s).params = s.params ∧ (setIllegalCmd s).armState = s.armState ∧
    (setIllegalCmd s).flightMode = s.flightMode ∧ (setIllegalCmd s).act = s.act ∧
    (setIllegalCmd s).integ = s.integ ∧ (setIllegalCmd s).pidOut = s.pidOut ∧
    (setIllegalCmd s).lastTick = s.lastTick ∧ (setIllegalCmd s).dt = s.dt ∧
    (setIllegalCmd s).gestState = s.gestState ∧ (setIllegalCmd s).gestCount = s.gestCount ∧
    (setIllegalCmd s).gestT0 = s.gestT0 ∧ (setIllegalCmd s).motor = s.motor ∧
    (setIllegalCmd s).lastFreq = s.lastFreq ∧ (setIllegalCmd s).vtxCs = s.vtxCs ∧
    (setIllegalCmd s).vtxClk = s.vtxClk ∧ (setIllegalCmd s).vtxData = s.vtxData ∧ (setIllegalCmd s).tx = s.tx ∧
    (setIllegalCmd s).preset = s.preset ∧ (setIllegalCmd s).airframe = s.airframe ∧
    (setIllegalCmd s).mixSigns = s.mixSigns ∧ (setIllegalCmd s).idleOffset = s.idleOffset ∧
    (setIllegalCmd s).gsf = s.gsf ∧ (setIllegalCmd s).lowThr = s.lowThr ∧
    (setIllegalCmd s).failsafe = s.failsafe ∧ (setIllegalCmd s).cfgLock = s.cfgLock ∧
    (setIllegalCmd s).cfgErr = s.cfgErr ∧ (setIllegalCmd s).illegalCmd = true ∧
    (setIllegalCmd s).freqResult = s.freqResult ∧ (setIllegalCmd s).dout = s.dout ∧
    (setIllegalCmd s).events = s.events ∧ (setIllegalCmd s).waveform = s.waveform ∧
    (setIllegalCmd s).inputs = s.inputs ∧ (setIllegalCmd s).host = s.host :=
  ⟨rfl, rfl, rfl, rfl, rfl, rfl, rfl, rfl, rfl, rfl, rfl, rfl, rfl, rfl, rfl, rfl, rfl, rfl, rfl, rfl, rfl, rfl, rfl, rfl, rfl, rfl, rfl, rfl, rfl, rfl, rfl, rfl, rfl⟩

@[simp] theorem clearSticky_fields (s : State) :
    (clearSticky s).params = s.params ∧ (clearSticky s).armState = s.armState ∧
    (clearSticky s).flightMode = s.flightMode ∧ (clearSticky s).act = s.act ∧ (clearSticky s).integ = s.integ ∧
    (clearSticky s).pidOut = s.pidOut ∧ (clearSticky s).lastTick = s.lastTick ∧ (clearSticky s).dt = s.dt ∧
    (clearSticky s).gestState = s.gestState ∧ (clearSticky s).gestCount = s.gestCount ∧
    (clearSticky s).gestT0 = s.gestT0 ∧ (clearSticky s).motor = s.motor ∧
    (clearSticky s).lastFreq = s.lastFreq ∧ (clearSticky s).vtxCs = s.vtxCs ∧
    (clearSticky s).vtxClk = s.vtxClk ∧ (clearSticky s).vtxData = s.vtxData ∧ (clearSticky s).tx = s.tx ∧
    (clearSticky s).preset = s.preset ∧ (clearSticky s).airframe = s.airframe ∧
    (clearSticky s).mixSigns = s.mixSigns ∧ (clearSticky s).idleOffset = s.idleOffset ∧
    (clearSticky s).gsf = s.gsf ∧ (clearSticky s).lowThr = s.lowThr ∧ (clearSticky s).failsafe = s.failsafe ∧
    (clearSticky s).cfgLock = s.cfgLock ∧ (clearSticky s).cfgErr = false ∧ (clearSticky s).illegalCmd = false ∧
    (clearSticky s).freqResult = s.freqResult ∧ (clearSticky s).dout = s.dout ∧
    (clearSticky s).events = s.events ∧ (clearSticky s).waveform = s.waveform ∧
    (clearSticky s).inputs = s.inputs ∧ (clearSticky s).host = s.host :=
  ⟨rfl, rfl, rfl, rfl, rfl, rfl, rfl, rfl, rfl, rfl, rfl, rfl, rfl, rfl, rfl, rfl, rfl, rfl, rfl, rfl, rfl, rfl, rfl, rfl, rfl, rfl, rfl, rfl, rfl, rfl, rfl, rfl, rfl⟩

@[simp] theorem lockConfig_fields (s : State) :
    (lockConfig s).params = s.params ∧ (lockConfig s).armState = s.armState ∧
    (lockConfig s).flightMode = s.flightMode ∧ (lockConfig s).act = s.act ∧ (lockConfig s).integ = s.integ ∧
    (lockConfig s).pidOut = s.pidOut ∧ (lockConfig s).lastTick = s.lastTick ∧ (lockConfig s).dt = s.dt ∧
    (lockConfig s).gestState = s.gestState ∧ (lockConfig s).gestCount = s.gestCount ∧
    (lockConfig s).gestT0 = s.gestT0 ∧ (lockConfig s).motor = s.motor ∧ (lockConfig s).lastFreq = s.lastFreq ∧
    (lockConfig s).vtxCs = s.vtxCs ∧ (lockConfig s).vtxClk = s.vtxClk ∧ (lockConfig s).vtxData = s.vtxData ∧
    (lockConfig s).tx = s.tx ∧ (lockConfig s).preset = s.preset ∧ (lockConfig s).airframe = s.airframe ∧
    (lockConfig s).mixSigns = s.mixSigns ∧ (lockConfig s).idleOffset = s.idleOffset ∧
    (lockConfig s).gsf = s.gsf ∧ (lockConfig s).lowThr = s.lowThr ∧ (lockConfig s).failsafe = s.failsafe ∧
    (lockConfig s).cfgLock = true ∧ (lockConfig s).cfgErr = s.cfgErr ∧
    (lockConfig s).illegalCmd = s.illegalCmd ∧ (lockConfig s).freqResult = s.freqResult ∧
    (lockConfig s).dout = s.dout ∧ (lockConfig s).events = s.events ∧ (lockConfig s).waveform = s.waveform ∧
    (lockConfig s).inputs = s.inputs ∧ (lockConfig s).host = s.host :=
  ⟨rfl, rfl, rfl, rfl, rfl, rfl, rfl, rfl, rfl, rfl, rfl, rfl, rfl, rfl, rfl, rfl, rfl, rfl, rfl, rfl, rfl, rfl, rfl, rfl, rfl, rfl, rfl, rfl, rfl, rfl, rfl, rfl, rfl⟩

@[simp] theorem setFreqResult_fields (r : FreqResult) (s : State) :
    (setFreqResult r s).params = s.params ∧ (setFreqResult r s).armState = s.armState ∧
    (setFreqResult r s).flightMode = s.flightMode ∧ (setFreqResult r s).act = s.act ∧
    (setFreqResult r s).integ = s.integ ∧ (setFreqResult r s).pidOut = s.pidOut ∧
    (setFreqResult r s).lastTick = s.lastTick ∧ (setFreqResult r s).dt = s.dt ∧
    (setFreqResult r s).gestState = s.gestState ∧ (setFreqResult r s).gestCount = s.gestCount ∧
    (setFreqResult r s).gestT0 = s.gestT0 ∧ (setFreqResult r s).motor = s.motor ∧
    (setFreqResult r s).lastFreq = s.lastFreq ∧ (setFreqResult r s).vtxCs = s.vtxCs ∧
    (setFreqResult r s).vtxClk = s.vtxClk ∧ (setFreqResult r s).vtxData = s.vtxData ∧
    (setFreqResult r s).tx = s.tx ∧ (setFreqResult r s).preset = s.preset ∧
    (setFreqResult r s).airframe = s.airframe ∧ (setFreqResult r s).mixSigns = s.mixSigns ∧
    (setFreqResult r s).idleOffset = s.idleOffset ∧ (setFreqResult r s).gsf = s.gsf ∧
    (setFreqResult r s).lowThr = s.lowThr ∧ (setFreqResult r s).failsafe = s.failsafe ∧
    (setFreqResult r s).cfgLock = s.cfgLock ∧ (setFreqResult r s).cfgErr = s.cfgErr ∧
    (setFreqResult r s).illegalCmd = s.illegalCmd ∧ (setFreqResult r s).freqResult = r ∧
    (setFreqResult r s).dout = s.dout ∧ (setFreqResult r s).events = s.events ∧
    (setFreqResult r s).waveform = s.waveform ∧ (setFreqResult r s).inputs = s.inputs ∧
    (setFreqResult r s).host = s.host :=
  ⟨rfl, rfl, rfl, rfl, rfl, rfl, rfl, rfl, rfl, rfl, rfl, rfl, rfl, rfl, rfl, rfl, rfl, rfl, rfl, rfl, rfl, rfl, rfl, rfl, rfl, rfl, rfl, rfl, rfl, rfl, rfl, rfl, rfl⟩

@[simp] theorem mirrorFlags_fields (low : Bool) (s : State) :
    (mirrorFlags low s).params = s.params ∧ (mirrorFlags low s).armState = s.armState ∧
    (mirrorFlags low s).flightMode = s.flightMode ∧ (mirrorFlags low s).act = s.act ∧
    (mirrorFlags low s).integ = s.integ ∧ (mirrorFlags low s).pidOut = s.pidOut ∧
    (mirrorFlags low s).lastTick = s.lastTick ∧ (mirrorFlags low s).dt = s.dt ∧
    (mirrorFlags low s).gestState = s.gestState ∧ (mirrorFlags low s).gestCount = s.gestCount ∧
    (mirrorFlags low s).gestT0 = s.gestT0 ∧ (mirrorFlags low s).motor = s.motor ∧
    (mirrorFlags low s).lastFreq = s.lastFreq ∧ (mirrorFlags low s).vtxCs = s.vtxCs ∧
    (mirrorFlags low s).vtxClk = s.vtxClk ∧ (mirrorFlags low s).vtxData = s.vtxData ∧
    (mirrorFlags low s).tx = s.tx ∧ (mirrorFlags low s).preset = s.preset ∧
    (mirrorFlags low s).airframe = s.airframe ∧ (mirrorFlags low s).mixSigns = s.mixSigns ∧
    (mirrorFlags low s).idleOffset = s.idleOffset ∧ (mirrorFlags low s).gsf = s.gsf ∧
    (mirrorFlags low s).lowThr = low ∧ (mirrorFlags low s).failsafe = s.inputs.failsafeIn ∧
    (mirrorFlags low s).cfgLock = s.cfgLock ∧ (mirrorFlags low s).cfgErr = s.cfgErr ∧
    (mirrorFlags low s).illegalCmd = s.illegalCmd ∧ (mirrorFlags low s).freqResult = s.freqResult ∧
    (mirrorFlags low s).dout = s.dout ∧ (mirrorFlags low s).events = s.events ∧
    (mirrorFlags low s).waveform = s.waveform ∧ (mirrorFlags low s).inputs = s.inputs ∧
    (mirrorFlags low s).host = s.host :=
  ⟨rfl, rfl, rfl, rfl, rfl, rfl, rfl, rfl, rfl, rfl, rfl, rfl, rfl, rfl, rfl, rfl, rfl, rfl, rfl, rfl, rfl, rfl, rfl, rfl, rfl, rfl, rfl, rfl, rfl, rfl, rfl, rfl, rfl⟩

@[simp] theorem setDout_fields (v : Word) (s : State) :
    (setDout v s).params = s.params ∧ (setDout v s).armState = s.armState ∧
    (setDout v s).flightMode = s.flightMode ∧ (setDout v s).act = s.act ∧ (setDout v s).integ = s.integ ∧
    (setDout v s).pidOut = s.pidOut ∧ (setDout v s).lastTick = s.lastTick ∧ (setDout v s).dt = s.dt ∧
    (setDout v s).gestState = s.gestState ∧ (setDout v s).gestCount = s.gestCount ∧
    (setDout v s).gestT0 = s.gestT0 ∧ (setDout v s).motor = s.motor ∧ (setDout v s).lastFreq = s.lastFreq ∧
    (setDout v s).vtxCs = s.vtxCs ∧ (setDout v s).vtxClk = s.vtxClk ∧ (setDout v s).vtxData = s.vtxData ∧
    (setDout v s).tx = s.tx ∧ (setDout v s).preset = s.preset ∧ (setDout v s).airframe = s.airframe ∧
    (setDout v s).mixSigns = s.mixSigns ∧ (setDout v s).idleOffset = s.idleOffset ∧ (setDout v s).gsf = s.gsf ∧
    (setDout v s).lowThr = s.lowThr ∧ (setDout v s).failsafe = s.failsafe ∧ (setDout v s).cfgLock = s.cfgLock ∧
    (setDout v s).cfgErr = s.cfgErr ∧ (setDout v s).illegalCmd = s.illegalCmd ∧
    (setDout v s).freqResult = s.freqResult ∧ (setDout v s).dout = v ∧ (setDout v s).events = s.events ∧
    (setDout v s).waveform = s.waveform ∧ (setDout v s).inputs = s.inputs ∧ (setDout v s).host = s.host :=
  ⟨rfl, rfl, rfl, rfl, rfl, rfl, rfl, rfl, rfl, rfl, rfl, rfl, rfl, rfl, rfl, rfl, rfl, rfl, rfl, rfl, rfl, rfl, rfl, rfl, rfl, rfl, rfl, rfl, rfl, rfl, rfl, rfl, rfl⟩

@[simp] theorem emit_fields (e : Event) (s : State) :
    (emit e s).params = s.params ∧ (emit e s).armState = s.armState ∧ (emit e s).flightMode = s.flightMode ∧
    (emit e s).act = s.act ∧ (emit e s).integ = s.integ ∧ (emit e s).pidOut = s.pidOut ∧
    (emit e s).lastTick = s.lastTick ∧ (emit e s).dt = s.dt ∧ (emit e s).gestState = s.gestState ∧
    (emit e s).gestCount = s.gestCount ∧ (emit e s).gestT0 = s.gestT0 ∧ (emit e s).motor = s.motor ∧
    (emit e s).lastFreq = s.lastFreq ∧ (emit e s).vtxCs = s.vtxCs ∧ (emit e s).vtxClk = s.vtxClk ∧
    (emit e s).vtxData = s.vtxData ∧ (emit e s).tx = s.tx ∧ (emit e s).preset = s.preset ∧
    (emit e s).airframe = s.airframe ∧ (emit e s).mixSigns = s.mixSigns ∧ (emit e s).idleOffset = s.idleOffset ∧
    (emit e s).gsf = s.gsf ∧ (emit e s).lowThr = s.lowThr ∧ (emit e s).failsafe = s.failsafe ∧
    (emit e s).cfgLock = s.cfgLock ∧ (emit e s).cfgErr = s.cfgErr ∧ (emit e s).illegalCmd = s.illegalCmd ∧
    (emit e s).freqResult = s.freqResult ∧ (emit e s).dout = s.dout ∧ (emit e s).events = s.events ++ [e] ∧
    (emit e s).waveform = s.waveform ∧ (emit e s).inputs = s.inputs ∧ (emit e s).host = s.host :=
  ⟨rfl, rfl, rfl, rfl, rfl, rfl, rfl, rfl, rfl, rfl, rfl, rfl, rfl, rfl, rfl, rfl, rfl, rfl, rfl, rfl, rfl, rfl, rfl, rfl, rfl, rfl, rfl, rfl, rfl, rfl, rfl, rfl, rfl⟩

@[simp] theorem waitMin_fields (s : State) :
    (waitMin s).params = s.params ∧ (waitMin s).armState = s.armState ∧ (waitMin s).flightMode = s.flightMode ∧
    (waitMin s).act = s.act ∧ (waitMin s).integ = s.integ ∧ (waitMin s).pidOut = s.pidOut ∧
    (waitMin s).lastTick = s.lastTick ∧ (waitMin s).dt = s.dt ∧ (waitMin s).gestState = s.gestState ∧
    (waitMin s).gestCount = s.gestCount ∧ (waitMin s).gestT0 = s.gestT0 ∧ (waitMin s).motor = s.motor ∧
    (waitMin s).lastFreq = s.lastFreq ∧ (waitMin s).vtxCs = s.vtxCs ∧ (waitMin s).vtxClk = s.vtxClk ∧
    (waitMin s).vtxData = s.vtxData ∧ (waitMin s).tx = s.tx ∧ (waitMin s).preset = s.preset ∧
    (waitMin s).airframe = s.airframe ∧ (waitMin s).mixSigns = s.mixSigns ∧
    (waitMin s).idleOffset = s.idleOffset ∧ (waitMin s).gsf = s.gsf ∧ (waitMin s).lowThr = s.lowThr ∧
    (waitMin s).failsafe = s.failsafe ∧ (waitMin s).cfgLock = s.cfgLock ∧ (waitMin s).cfgErr = s.cfgErr ∧
    (waitMin s).illegalCmd = s.illegalCmd ∧ (waitMin s).freqResult = s.freqResult ∧ (waitMin s).dout = s.dout ∧
    (waitMin s).events = s.events ∧ (waitMin s).waveform = s.waveform ++ [.waitMin] ∧
    (waitMin s).inputs = s.inputs ∧ (waitMin s).host = s.host :=
  ⟨rfl, rfl, rfl, rfl, rfl, rfl, rfl, rfl, rfl, rfl, rfl, rfl, rfl, rfl, rfl, rfl, rfl, rfl, rfl, rfl, rfl, rfl, rfl, rfl, rfl, rfl, rfl, rfl, rfl, rfl, rfl, rfl, rfl⟩

/-- Sampling a bundle changes no port but the auxiliary ones. -/
@[simp] theorem sampleBundle_fields (p : Params) (inp : Inputs) :
    (sampleBundle p inp).cmd = inp.cmd ∧ (sampleBundle p inp).din = inp.din ∧
    (sampleBundle p inp).nowUs = inp.nowUs ∧ (sampleBundle p inp).thr = inp.thr ∧
    (sampleBundle p inp).roll = inp.roll ∧ (sampleBundle p inp).pitch = inp.pitch ∧
    (sampleBundle p inp).yaw = inp.yaw ∧ (sampleBundle p inp).aux = sampleAux p.nAux inp.aux ∧
    (sampleBundle p inp).failsafeIn = inp.failsafeIn ∧ (sampleBundle p inp).err = inp.err ∧
    (sampleBundle p inp).gyro = inp.gyro :=
  ⟨rfl, rfl, rfl, rfl, rfl, rfl, rfl, rfl, rfl, rfl, rfl⟩

@[simp] theorem length_sampleAux (nAux : Nat) (driven : List Word) : (sampleAux nAux driven).length = nAux := by
  simp [sampleAux]

/-- A list of exactly `N_AUX` channels is sampled as it is. -/
theorem sampleAux_of_length {nAux : Nat} {driven : List Word} (h : driven.length = nAux) :
    sampleAux nAux driven = driven := by
  subst h
  apply List.ext_getElem
  · simp
  · intro i h1 h2
    simp [sampleAux, h2]

@[simp] theorem beginCommand_fields (inp : Inputs) (rest : List HostAct) (s : State) :
    (beginCommand inp rest s).params = s.params ∧ (beginCommand inp rest s).armState = s.armState ∧
    (beginCommand inp rest s).flightMode = s.flightMode ∧ (beginCommand inp rest s).act = s.act ∧
    (beginCommand inp rest s).integ = s.integ ∧ (beginCommand inp rest s).pidOut = s.pidOut ∧
    (beginCommand inp rest s).lastTick = s.lastTick ∧ (beginCommand inp rest s).dt = s.dt ∧
    (beginCommand inp rest s).gestState = s.gestState ∧ (beginCommand inp rest s).gestCount = s.gestCount ∧
    (beginCommand inp rest s).gestT0 = s.gestT0 ∧ (beginCommand inp rest s).motor = s.motor ∧
    (beginCommand inp rest s).lastFreq = s.lastFreq ∧ (beginCommand inp rest s).vtxCs = s.vtxCs ∧
    (beginCommand inp rest s).vtxClk = s.vtxClk ∧ (beginCommand inp rest s).vtxData = s.vtxData ∧
    (beginCommand inp rest s).tx = s.tx ∧ (beginCommand inp rest s).preset = s.preset ∧
    (beginCommand inp rest s).airframe = s.airframe ∧ (beginCommand inp rest s).mixSigns = s.mixSigns ∧
    (beginCommand inp rest s).idleOffset = s.idleOffset ∧ (beginCommand inp rest s).gsf = s.gsf ∧
    (beginCommand inp rest s).lowThr = s.lowThr ∧ (beginCommand inp rest s).failsafe = s.failsafe ∧
    (beginCommand inp rest s).cfgLock = s.cfgLock ∧ (beginCommand inp rest s).cfgErr = s.cfgErr ∧
    (beginCommand inp rest s).illegalCmd = s.illegalCmd ∧ (beginCommand inp rest s).freqResult = s.freqResult ∧
    (beginCommand inp rest s).dout = s.dout ∧ (beginCommand inp rest s).events = [] ∧
    (beginCommand inp rest s).waveform = [] ∧ (beginCommand inp rest s).inputs = sampleBundle s.params inp ∧
    (beginCommand inp rest s).host = rest :=
  ⟨rfl, rfl, rfl, rfl, rfl, rfl, rfl, rfl, rfl, rfl, rfl, rfl, rfl, rfl, rfl, rfl, rfl, rfl, rfl, rfl, rfl, rfl, rfl, rfl, rfl, rfl, rfl, rfl, rfl, rfl, rfl, rfl, rfl⟩

@[simp] theorem tick_fields (s : State) :
    (tick s).params = s.params ∧ (tick s).armState = s.armState ∧ (tick s).flightMode = s.flightMode ∧
    (tick s).act = s.act ∧ (tick s).integ = s.integ ∧ (tick s).pidOut = s.pidOut ∧
    (tick s).lastTick = s.inputs.nowUs ∧
    (tick s).dt = toWord (dtOf s.params (elapsedUs s.inputs.nowUs s.lastTick)) ∧
    (tick s).gestState = s.gestState ∧ (tick s).gestCount = s.gestCount ∧ (tick s).gestT0 = s.gestT0 ∧
    (tick s).motor = s.motor ∧ (tick s).lastFreq = s.lastFreq ∧ (tick s).vtxCs = s.vtxCs ∧
    (tick s).vtxClk = s.vtxClk ∧ (tick s).vtxData = s.vtxData ∧ (tick s).tx = s.tx ∧
    (tick s).preset = s.preset ∧ (tick s).airframe = s.airframe ∧ (tick s).mixSigns = s.mixSigns ∧
    (tick s).idleOffset = s.idleOffset ∧ (tick s).gsf = s.gsf ∧ (tick s).lowThr = s.lowThr ∧
    (tick s).failsafe = s.failsafe ∧ (tick s).cfgLock = s.cfgLock ∧ (tick s).cfgErr = s.cfgErr ∧
    (tick s).illegalCmd = s.illegalCmd ∧ (tick s).freqResult = s.freqResult ∧ (tick s).dout = s.dout ∧
    (tick s).events = s.events ∧ (tick s).waveform = s.waveform ∧ (tick s).inputs = s.inputs ∧
    (tick s).host = s.host :=
  ⟨rfl, rfl, rfl, rfl, rfl, rfl, rfl, rfl, rfl, rfl, rfl, rfl, rfl, rfl, rfl, rfl, rfl, rfl, rfl, rfl, rfl, rfl, rfl, rfl, rfl, rfl, rfl, rfl, rfl, rfl, rfl, rfl, rfl⟩

@[simp] theorem gainLoad_fields (m : FlightMode) (s : State) :
    (gainLoad m s).params = s.params ∧ (gainLoad m s).armState = s.armState ∧
    (gainLoad m s).flightMode = s.flightMode ∧ (gainLoad m s).act = s.preset.get m ∧
    (gainLoad m s).integ = s.integ ∧ (gainLoad m s).pidOut = s.pidOut ∧ (gainLoad m s).lastTick = s.lastTick ∧
    (gainLoad m s).dt = s.dt ∧ (gainLoad m s).gestState = s.gestState ∧ (gainLoad m s).gestCount = s.gestCount ∧
    (gainLoad m s).gestT0 = s.gestT0 ∧ (gainLoad m s).motor = s.motor ∧ (gainLoad m s).lastFreq = s.lastFreq ∧
    (gainLoad m s).vtxCs = s.vtxCs ∧ (gainLoad m s).vtxClk = s.vtxClk ∧ (gainLoad m s).vtxData = s.vtxData ∧
    (gainLoad m s).tx = s.tx ∧ (gainLoad m s).preset = s.preset ∧ (gainLoad m s).airframe = s.airframe ∧
    (gainLoad m s).mixSigns = s.mixSigns ∧ (gainLoad m s).idleOffset = s.idleOffset ∧
    (gainLoad m s).gsf = s.gsf ∧ (gainLoad m s).lowThr = s.lowThr ∧ (gainLoad m s).failsafe = s.failsafe ∧
    (gainLoad m s).cfgLock = s.cfgLock ∧ (gainLoad m s).cfgErr = s.cfgErr ∧
    (gainLoad m s).illegalCmd = s.illegalCmd ∧ (gainLoad m s).freqResult = s.freqResult ∧
    (gainLoad m s).dout = s.dout ∧ (gainLoad m s).events = s.events ∧ (gainLoad m s).waveform = s.waveform ∧
    (gainLoad m s).inputs = s.inputs ∧ (gainLoad m s).host = s.host :=
  ⟨rfl, rfl, rfl, rfl, rfl, rfl, rfl, rfl, rfl, rfl, rfl, rfl, rfl, rfl, rfl, rfl, rfl, rfl, rfl, rfl, rfl, rfl, rfl, rfl, rfl, rfl, rfl, rfl, rfl, rfl, rfl, rfl, rfl⟩

@[simp] theorem armTransition_fields (s : State) :
    (armTransition s).params = s.params ∧ (armTransition s).armState = .armedNotStarted ∧
    (armTransition s).flightMode = modeSelect s.params s.airframe s.inputs.roll ∧
    (armTransition s).act = s.preset.get (modeSelect s.params s.airframe s.inputs.roll) ∧
    (armTransition s).integ = s.integ ∧ (armTransition s).pidOut = s.pidOut ∧
    (armTransition s).lastTick = s.lastTick ∧ (armTransition s).dt = s.dt ∧
    (armTransition s).gestState = .start ∧ (armTransition s).gestCount = 0#3 ∧
    (armTransition s).gestT0 = s.gestT0 ∧ (armTransition s).motor = s.motor ∧
    (armTransition s).lastFreq = s.lastFreq ∧ (armTransition s).vtxCs = s.vtxCs ∧
    (armTransition s).vtxClk = s.vtxClk ∧ (armTransition s).vtxData = s.vtxData ∧ (armTransition s).tx = s.tx ∧
    (armTransition s).preset = s.preset ∧ (armTransition s).airframe = s.airframe ∧
    (armTransition s).mixSigns = s.mixSigns ∧ (armTransition s).idleOffset = s.idleOffset ∧
    (armTransition s).gsf = s.gsf ∧ (armTransition s).lowThr = s.lowThr ∧
    (armTransition s).failsafe = s.failsafe ∧ (armTransition s).cfgLock = s.cfgLock ∧
    (armTransition s).cfgErr = s.cfgErr ∧ (armTransition s).illegalCmd = s.illegalCmd ∧
    (armTransition s).freqResult = s.freqResult ∧ (armTransition s).dout = s.dout ∧
    (armTransition s).events = s.events ++ [.calArm] ∧ (armTransition s).waveform = s.waveform ∧
    (armTransition s).inputs = s.inputs ∧ (armTransition s).host = s.host :=
  ⟨rfl, rfl, rfl, rfl, rfl, rfl, rfl, rfl, rfl, rfl, rfl, rfl, rfl, rfl, rfl, rfl, rfl, rfl, rfl, rfl, rfl, rfl, rfl, rfl, rfl, rfl, rfl, rfl, rfl, rfl, rfl, rfl, rfl⟩

@[simp] theorem disarmTransition_fields (s : State) :
    (disarmTransition s).params = s.params ∧ (disarmTransition s).armState = .disarmed ∧
    (disarmTransition s).flightMode = s.flightMode ∧ (disarmTransition s).act = s.act ∧
    (disarmTransition s).integ = s.integ ∧ (disarmTransition s).pidOut = s.pidOut ∧
    (disarmTransition s).lastTick = s.lastTick ∧ (disarmTransition s).dt = s.dt ∧
    (disarmTransition s).gestState = s.gestState ∧ (disarmTransition s).gestCount = s.gestCount ∧
    (disarmTransition s).gestT0 = s.gestT0 ∧ (disarmTransition s).motor = s.motor ∧
    (disarmTransition s).lastFreq = s.lastFreq ∧ (disarmTransition s).vtxCs = s.vtxCs ∧
    (disarmTransition s).vtxClk = s.vtxClk ∧ (disarmTransition s).vtxData = s.vtxData ∧
    (disarmTransition s).tx = s.tx ∧ (disarmTransition s).preset = s.preset ∧
    (disarmTransition s).airframe = s.airframe ∧ (disarmTransition s).mixSigns = s.mixSigns ∧
    (disarmTransition s).idleOffset = s.idleOffset ∧ (disarmTransition s).gsf = s.gsf ∧
    (disarmTransition s).lowThr = s.lowThr ∧ (disarmTransition s).failsafe = s.failsafe ∧
    (disarmTransition s).cfgLock = s.cfgLock ∧ (disarmTransition s).cfgErr = s.cfgErr ∧
    (disarmTransition s).illegalCmd = s.illegalCmd ∧ (disarmTransition s).freqResult = s.freqResult ∧
    (disarmTransition s).dout = s.dout ∧ (disarmTransition s).events = s.events ∧
    (disarmTransition s).waveform = s.waveform ∧ (disarmTransition s).inputs = s.inputs ∧
    (disarmTransition s).host = s.host :=
  ⟨rfl, rfl, rfl, rfl, rfl, rfl, rfl, rfl, rfl, rfl, rfl, rfl, rfl, rfl, rfl, rfl, rfl, rfl, rfl, rfl, rfl, rfl, rfl, rfl, rfl, rfl, rfl, rfl, rfl, rfl, rfl, rfl, rfl⟩

@[simp] theorem startTransition_fields (s : State) :
    (startTransition s).params = s.params ∧ (startTransition s).armState = .armedStarted ∧
    (startTransition s).flightMode = s.flightMode ∧ (startTransition s).act = s.act ∧
    (startTransition s).integ = s.integ ∧ (startTransition s).pidOut = s.pidOut ∧
    (startTransition s).lastTick = s.lastTick ∧ (startTransition s).dt = s.dt ∧
    (startTransition s).gestState = s.gestState ∧ (startTransition s).gestCount = s.gestCount ∧
    (startTransition s).gestT0 = s.gestT0 ∧ (startTransition s).motor = s.motor ∧
    (startTransition s).lastFreq = s.lastFreq ∧ (startTransition s).vtxCs = s.vtxCs ∧
    (startTransition s).vtxClk = s.vtxClk ∧ (startTransition s).vtxData = s.vtxData ∧
    (startTransition s).tx = s.tx ∧ (startTransition s).preset = s.preset ∧
    (startTransition s).airframe = s.airframe ∧ (startTransition s).mixSigns = s.mixSigns ∧
    (startTransition s).idleOffset = s.idleOffset ∧ (startTransition s).gsf = s.gsf ∧
    (startTransition s).lowThr = s.lowThr ∧ (startTransition s).failsafe = s.failsafe ∧
    (startTransition s).cfgLock = s.cfgLock ∧ (startTransition s).cfgErr = s.cfgErr ∧
    (startTransition s).illegalCmd = s.illegalCmd ∧ (startTransition s).freqResult = s.freqResult ∧
    (startTransition s).dout = s.dout ∧ (startTransition s).events = s.events ∧
    (startTransition s).waveform = s.waveform ∧ (startTransition s).inputs = s.inputs ∧
    (startTransition s).host = s.host :=
  ⟨rfl, rfl, rfl, rfl, rfl, rfl, rfl, rfl, rfl, rfl, rfl, rfl, rfl, rfl, rfl, rfl, rfl, rfl, rfl, rfl, rfl, rfl, rfl, rfl, rfl, rfl, rfl, rfl, rfl, rfl, rfl, rfl, rfl⟩

@[simp] theorem storeGest_fields (g : GestWork) (s : State) :
    (storeGest g s).params = s.params ∧ (storeGest g s).armState = s.armState ∧
    (storeGest g s).flightMode = s.flightMode ∧ (storeGest g s).act = s.act ∧ (storeGest g s).integ = s.integ ∧
    (storeGest g s).pidOut = s.pidOut ∧ (storeGest g s).lastTick = s.lastTick ∧ (storeGest g s).dt = s.dt ∧
    (storeGest g s).gestState = g.state ∧ (storeGest g s).gestCount = BitVec.ofNat 3 g.count ∧
    (storeGest g s).gestT0 = g.t0 ∧ (storeGest g s).motor = s.motor ∧ (storeGest g s).lastFreq = s.lastFreq ∧
    (storeGest g s).vtxCs = s.vtxCs ∧ (storeGest g s).vtxClk = s.vtxClk ∧ (storeGest g s).vtxData = s.vtxData ∧
    (storeGest g s).tx = s.tx ∧ (storeGest g s).preset = s.preset ∧ (storeGest g s).airframe = s.airframe ∧
    (storeGest g s).mixSigns = s.mixSigns ∧ (storeGest g s).idleOffset = s.idleOffset ∧
    (storeGest g s).gsf = s.gsf ∧ (storeGest g s).lowThr = s.lowThr ∧ (storeGest g s).failsafe = s.failsafe ∧
    (storeGest g s).cfgLock = s.cfgLock ∧ (storeGest g s).cfgErr = s.cfgErr ∧
    (storeGest g s).illegalCmd = s.illegalCmd ∧ (storeGest g s).freqResult = s.freqResult ∧
    (storeGest g s).dout = s.dout ∧ (storeGest g s).events = s.events ∧ (storeGest g s).waveform = s.waveform ∧
    (storeGest g s).inputs = s.inputs ∧ (storeGest g s).host = s.host :=
  ⟨rfl, rfl, rfl, rfl, rfl, rfl, rfl, rfl, rfl, rfl, rfl, rfl, rfl, rfl, rfl, rfl, rfl, rfl, rfl, rfl, rfl, rfl, rfl, rfl, rfl, rfl, rfl, rfl, rfl, rfl, rfl, rfl, rfl⟩

@[simp] theorem mixAndGate_fields (thrOut : Int) (low : Bool) (s : State) :
    (mixAndGate thrOut low s).params = s.params ∧ (mixAndGate thrOut low s).armState = s.armState ∧
    (mixAndGate thrOut low s).flightMode = s.flightMode ∧ (mixAndGate thrOut low s).act = s.act ∧
    (mixAndGate thrOut low s).integ = s.integ ∧ (mixAndGate thrOut low s).pidOut = s.pidOut ∧
    (mixAndGate thrOut low s).lastTick = s.lastTick ∧ (mixAndGate thrOut low s).dt = s.dt ∧
    (mixAndGate thrOut low s).gestState = s.gestState ∧ (mixAndGate thrOut low s).gestCount = s.gestCount ∧
    (mixAndGate thrOut low s).gestT0 = s.gestT0 ∧
    (mixAndGate thrOut low s).motor = Quad.ofFn (fun m => toWord (motorCommand s.params (gateOpen low s) (mixAcc s.mixSigns thrOut s.pidOut m))) ∧
    (mixAndGate thrOut low s).lastFreq = s.lastFreq ∧ (mixAndGate thrOut low s).vtxCs = s.vtxCs ∧
    (mixAndGate thrOut low s).vtxClk = s.vtxClk ∧ (mixAndGate thrOut low s).vtxData = s.vtxData ∧
    (mixAndGate thrOut low s).tx = s.tx ∧ (mixAndGate thrOut low s).preset = s.preset ∧
    (mixAndGate thrOut low s).airframe = s.airframe ∧ (mixAndGate thrOut low s).mixSigns = s.mixSigns ∧
    (mixAndGate thrOut low s).idleOffset = s.idleOffset ∧ (mixAndGate thrOut low s).gsf = s.gsf ∧
    (mixAndGate thrOut low s).lowThr = s.lowThr ∧ (mixAndGate thrOut low s).failsafe = s.failsafe ∧
    (mixAndGate thrOut low s).cfgLock = s.cfgLock ∧ (mixAndGate thrOut low s).cfgErr = s.cfgErr ∧
    (mixAndGate thrOut low s).illegalCmd = s.illegalCmd ∧ (mixAndGate thrOut low s).freqResult = s.freqResult ∧
    (mixAndGate thrOut low s).dout = s.dout ∧ (mixAndGate thrOut low s).events = s.events ∧
    (mixAndGate thrOut low s).waveform = s.waveform ∧ (mixAndGate thrOut low s).inputs = s.inputs ∧
    (mixAndGate thrOut low s).host = s.host :=
  ⟨rfl, rfl, rfl, rfl, rfl, rfl, rfl, rfl, rfl, rfl, rfl, rfl, rfl, rfl, rfl, rfl, rfl, rfl, rfl, rfl, rfl, rfl, rfl, rfl, rfl, rfl, rfl, rfl, rfl, rfl, rfl, rfl, rfl⟩

@[simp] theorem drive_frame (l : Line) (b : Bool) (s : State) :
    (drive l b s).params = s.params ∧ (drive l b s).armState = s.armState ∧
    (drive l b s).flightMode = s.flightMode ∧ (drive l b s).act = s.act ∧ (drive l b s).integ = s.integ ∧
    (drive l b s).pidOut = s.pidOut ∧ (drive l b s).lastTick = s.lastTick ∧ (drive l b s).dt = s.dt ∧
    (drive l b s).gestState = s.gestState ∧ (drive l b s).gestCount = s.gestCount ∧
    (drive l b s).gestT0 = s.gestT0 ∧ (drive l b s).motor = s.motor ∧ (drive l b s).lastFreq = s.lastFreq ∧
    (drive l b s).tx = s.tx ∧ (drive l b s).preset = s.preset ∧ (drive l b s).airframe = s.airframe ∧
    (drive l b s).mixSigns = s.mixSigns ∧ (drive l b s).idleOffset = s.idleOffset ∧ (drive l b s).gsf = s.gsf ∧
    (drive l b s).lowThr = s.lowThr ∧ (drive l b s).failsafe = s.failsafe ∧ (drive l b s).cfgLock = s.cfgLock ∧
    (drive l b s).cfgErr = s.cfgErr ∧ (drive l b s).illegalCmd = s.illegalCmd ∧
    (drive l b s).freqResult = s.freqResult ∧ (drive l b s).dout = s.dout ∧ (drive l b s).events = s.events ∧
    (drive l b s).inputs = s.inputs ∧ (drive l b s).host = s.host := by cases l <;> simp [drive]

@[simp] theorem armStep_frame (low : Bool) (s : State) :
    (armStep low s).params = s.params ∧ (armStep low s).integ = s.integ ∧ (armStep low s).pidOut = s.pidOut ∧
    (armStep low s).lastTick = s.lastTick ∧ (armStep low s).dt = s.dt ∧ (armStep low s).gestT0 = s.gestT0 ∧
    (armStep low s).motor = s.motor ∧ (armStep low s).lastFreq = s.lastFreq ∧ (armStep low s).vtxCs = s.vtxCs ∧
    (armStep low s).vtxClk = s.vtxClk ∧ (armStep low s).vtxData = s.vtxData ∧ (armStep low s).tx = s.tx ∧
    (armStep low s).preset = s.preset ∧ (armStep low s).airframe = s.airframe ∧
    (armStep low s).mixSigns = s.mixSigns ∧ (armStep low s).idleOffset = s.idleOffset ∧
    (armStep low s).gsf = s.gsf ∧ (armStep low s).lowThr = s.lowThr ∧ (armStep low s).failsafe = s.failsafe ∧
    (armStep low s).cfgLock = s.cfgLock ∧ (armStep low s).cfgErr = s.cfgErr ∧
    (armStep low s).illegalCmd = s.illegalCmd ∧ (armStep low s).freqResult = s.freqResult ∧
    (armStep low s).dout = s.dout ∧ (armStep low s).waveform = s.waveform ∧ (armStep low s).inputs = s.inputs ∧
    (armStep low s).host = s.host := by
  unfold armStep
  split <;> split <;> (try split) <;> simp

@[simp] theorem gestFire_frame (g : GestWork) (s : State) :
    (gestFire g s).params = s.params ∧ (gestFire g s).armState = s.armState ∧
    (gestFire g s).flightMode = s.flightMode ∧ (gestFire g s).act = s.act ∧ (gestFire g s).integ = s.integ ∧
    (gestFire g s).pidOut = s.pidOut ∧ (gestFire g s).lastTick = s.lastTick ∧ (gestFire g s).dt = s.dt ∧
    (gestFire g s).motor = s.motor ∧ (gestFire g s).lastFreq = s.lastFreq ∧ (gestFire g s).vtxCs = s.vtxCs ∧
    (gestFire g s).vtxClk = s.vtxClk ∧ (gestFire g s).vtxData = s.vtxData ∧ (gestFire g s).tx = s.tx ∧
    (gestFire g s).preset = s.preset ∧ (gestFire g s).airframe = s.airframe ∧
    (gestFire g s).mixSigns = s.mixSigns ∧ (gestFire g s).idleOffset = s.idleOffset ∧
    (gestFire g s).gsf = s.gsf ∧ (gestFire g s).lowThr = s.lowThr ∧ (gestFire g s).failsafe = s.failsafe ∧
    (gestFire g s).cfgLock = s.cfgLock ∧ (gestFire g s).cfgErr = s.cfgErr ∧
    (gestFire g s).illegalCmd = s.illegalCmd ∧ (gestFire g s).freqResult = s.freqResult ∧
    (gestFire g s).dout = s.dout ∧ (gestFire g s).waveform = s.waveform ∧ (gestFire g s).inputs = s.inputs ∧
    (gestFire g s).host = s.host := by
  unfold gestFire
  split <;> simp

@[simp] theorem gestureStep_frame (s : State) :
    (gestureStep s).params = s.params ∧ (gestureStep s).armState = s.armState ∧
    (gestureStep s).flightMode = s.flightMode ∧ (gestureStep s).act = s.act ∧ (gestureStep s).integ = s.integ ∧
    (gestureStep s).pidOut = s.pidOut ∧ (gestureStep s).lastTick = s.lastTick ∧ (gestureStep s).dt = s.dt ∧
    (gestureStep s).motor = s.motor ∧ (gestureStep s).lastFreq = s.lastFreq ∧ (gestureStep s).vtxCs = s.vtxCs ∧
    (gestureStep s).vtxClk = s.vtxClk ∧ (gestureStep s).vtxData = s.vtxData ∧ (gestureStep s).tx = s.tx ∧
    (gestureStep s).preset = s.preset ∧ (gestureStep s).airframe = s.airframe ∧
    (gestureStep s).mixSigns = s.mixSigns ∧ (gestureStep s).idleOffset = s.idleOffset ∧
    (gestureStep s).gsf = s.gsf ∧ (gestureStep s).lowThr = s.lowThr ∧ (gestureStep s).failsafe = s.failsafe ∧
    (gestureStep s).cfgLock = s.cfgLock ∧ (gestureStep s).cfgErr = s.cfgErr ∧
    (gestureStep s).illegalCmd = s.illegalCmd ∧ (gestureStep s).freqResult = s.freqResult ∧
    (gestureStep s).dout = s.dout ∧ (gestureStep s).waveform = s.waveform ∧ (gestureStep s).inputs = s.inputs ∧
    (gestureStep s).host = s.host := by
  simp [gestureStep]

@[simp] theorem gestureIfEnabled_frame (low : Bool) (s : State) :
    (gestureIfEnabled low s).params = s.params ∧ (gestureIfEnabled low s).armState = s.armState ∧
    (gestureIfEnabled low s).flightMode = s.flightMode ∧ (gestureIfEnabled low s).act = s.act ∧
    (gestureIfEnabled low s).integ = s.integ ∧ (gestureIfEnabled low s).pidOut = s.pidOut ∧
    (gestureIfEnabled low s).lastTick = s.lastTick ∧ (gestureIfEnabled low s).dt = s.dt ∧
    (gestureIfEnabled low s).motor = s.motor ∧ (gestureIfEnabled low s).lastFreq = s.lastFreq ∧
    (gestureIfEnabled low s).vtxCs = s.vtxCs ∧ (gestureIfEnabled low s).vtxClk = s.vtxClk ∧
    (gestureIfEnabled low s).vtxData = s.vtxData ∧ (gestureIfEnabled low s).tx = s.tx ∧
    (gestureIfEnabled low s).preset = s.preset ∧ (gestureIfEnabled low s).airframe = s.airframe ∧
    (gestureIfEnabled low s).mixSigns = s.mixSigns ∧ (gestureIfEnabled low s).idleOffset = s.idleOffset ∧
    (gestureIfEnabled low s).gsf = s.gsf ∧ (gestureIfEnabled low s).lowThr = s.lowThr ∧
    (gestureIfEnabled low s).failsafe = s.failsafe ∧ (gestureIfEnabled low s).cfgLock = s.cfgLock ∧
    (gestureIfEnabled low s).cfgErr = s.cfgErr ∧ (gestureIfEnabled low s).illegalCmd = s.illegalCmd ∧
    (gestureIfEnabled low s).freqResult = s.freqResult ∧ (gestureIfEnabled low s).dout = s.dout ∧
    (gestureIfEnabled low s).waveform = s.waveform ∧ (gestureIfEnabled low s).inputs = s.inputs ∧
    (gestureIfEnabled low s).host = s.host := by
  unfold gestureIfEnabled
  split <;> simp

@[simp] theorem pidAxis_frame (low : Bool) (gsm : Int) (a : Axis) (s : State) :
    (pidAxis low gsm a s).params = s.params ∧ (pidAxis low gsm a s).armState = s.armState ∧
    (pidAxis low gsm a s).flightMode = s.flightMode ∧ (pidAxis low gsm a s).act = s.act ∧
    (pidAxis low gsm a s).lastTick = s.lastTick ∧ (pidAxis low gsm a s).dt = s.dt ∧
    (pidAxis low gsm a s).gestState = s.gestState ∧ (pidAxis low gsm a s).gestCount = s.gestCount ∧
    (pidAxis low gsm a s).gestT0 = s.gestT0 ∧ (pidAxis low gsm a s).motor = s.motor ∧
    (pidAxis low gsm a s).lastFreq = s.lastFreq ∧ (pidAxis low gsm a s).vtxCs = s.vtxCs ∧
    (pidAxis low gsm a s).vtxClk = s.vtxClk ∧ (pidAxis low gsm a s).vtxData = s.vtxData ∧
    (pidAxis low gsm a s).tx = s.tx ∧ (pidAxis low gsm a s).preset = s.preset ∧
    (pidAxis low gsm a s).airframe = s.airframe ∧ (pidAxis low gsm a s).mixSigns = s.mixSigns ∧
    (pidAxis low gsm a s).idleOffset = s.idleOffset ∧ (pidAxis low gsm a s).gsf = s.gsf ∧
    (pidAxis low gsm a s).lowThr = s.lowThr ∧ (pidAxis low gsm a s).failsafe = s.failsafe ∧
    (pidAxis low gsm a s).cfgLock = s.cfgLock ∧ (pidAxis low gsm a s).cfgErr = s.cfgErr ∧
    (pidAxis low gsm a s).illegalCmd = s.illegalCmd ∧ (pidAxis low gsm a s).freqResult = s.freqResult ∧
    (pidAxis low gsm a s).dout = s.dout ∧ (pidAxis low gsm a s).events = s.events ∧
    (pidAxis low gsm a s).waveform = s.waveform ∧ (pidAxis low gsm a s).inputs = s.inputs ∧
    (pidAxis low gsm a s).host = s.host := by
  simp [pidAxis]

@[simp] theorem pidAll_frame (low : Bool) (gsm : Int) (s : State) :
    (pidAll low gsm s).params = s.params ∧ (pidAll low gsm s).armState = s.armState ∧
    (pidAll low gsm s).flightMode = s.flightMode ∧ (pidAll low gsm s).act = s.act ∧
    (pidAll low gsm s).lastTick = s.lastTick ∧ (pidAll low gsm s).dt = s.dt ∧
    (pidAll low gsm s).gestState = s.gestState ∧ (pidAll low gsm s).gestCount = s.gestCount ∧
    (pidAll low gsm s).gestT0 = s.gestT0 ∧ (pidAll low gsm s).motor = s.motor ∧
    (pidAll low gsm s).lastFreq = s.lastFreq ∧ (pidAll low gsm s).vtxCs = s.vtxCs ∧
    (pidAll low gsm s).vtxClk = s.vtxClk ∧ (pidAll low gsm s).vtxData = s.vtxData ∧
    (pidAll low gsm s).tx = s.tx ∧ (pidAll low gsm s).preset = s.preset ∧
    (pidAll low gsm s).airframe = s.airframe ∧ (pidAll low gsm s).mixSigns = s.mixSigns ∧
    (pidAll low gsm s).idleOffset = s.idleOffset ∧ (pidAll low gsm s).gsf = s.gsf ∧
    (pidAll low gsm s).lowThr = s.lowThr ∧ (pidAll low gsm s).failsafe = s.failsafe ∧
    (pidAll low gsm s).cfgLock = s.cfgLock ∧ (pidAll low gsm s).cfgErr = s.cfgErr ∧
    (pidAll low gsm s).illegalCmd = s.illegalCmd ∧ (pidAll low gsm s).freqResult = s.freqResult ∧
    (pidAll low gsm s).dout = s.dout ∧ (pidAll low gsm s).events = s.events ∧
    (pidAll low gsm s).waveform = s.waveform ∧ (pidAll low gsm s).inputs = s.inputs ∧
    (pidAll low gsm s).host = s.host := by
  simp [pidAll]

@[simp] theorem txPhaseStep_frame (s : State) :
    (txPhaseStep s).params = s.params ∧ (txPhaseStep s).armState = s.armState ∧
    (txPhaseStep s).flightMode = s.flightMode ∧ (txPhaseStep s).act = s.act ∧ (txPhaseStep s).integ = s.integ ∧
    (txPhaseStep s).pidOut = s.pidOut ∧ (txPhaseStep s).lastTick = s.lastTick ∧ (txPhaseStep s).dt = s.dt ∧
    (txPhaseStep s).gestState = s.gestState ∧ (txPhaseStep s).gestCount = s.gestCount ∧
    (txPhaseStep s).gestT0 = s.gestT0 ∧ (txPhaseStep s).motor = s.motor ∧
    (txPhaseStep s).lastFreq = s.lastFreq ∧ (txPhaseStep s).preset = s.preset ∧
    (txPhaseStep s).airframe = s.airframe ∧ (txPhaseStep s).mixSigns = s.mixSigns ∧
    (txPhaseStep s).idleOffset = s.idleOffset ∧ (txPhaseStep s).gsf = s.gsf ∧
    (txPhaseStep s).lowThr = s.lowThr ∧ (txPhaseStep s).failsafe = s.failsafe ∧
    (txPhaseStep s).cfgLock = s.cfgLock ∧ (txPhaseStep s).cfgErr = s.cfgErr ∧
    (txPhaseStep s).illegalCmd = s.illegalCmd ∧ (txPhaseStep s).freqResult = s.freqResult ∧
    (txPhaseStep s).dout = s.dout ∧ (txPhaseStep s).events = s.events ∧ (txPhaseStep s).inputs = s.inputs ∧
    (txPhaseStep s).host = s.host := by
  unfold txPhaseStep
  split <;> (try split) <;> (try split) <;> simp

@[simp] theorem drive_waveform (l : Line) (b : Bool) (s : State) :
    (drive l b s).waveform = s.waveform ++ [.drive l b] := by cases l <;> rfl

@[simp] theorem drive_cs_fields (b : Bool) (s : State) :
    (drive .cs b s).vtxCs = b ∧ (drive .cs b s).vtxClk = s.vtxClk ∧ (drive .cs b s).vtxData = s.vtxData :=
  ⟨rfl, rfl, rfl⟩

@[simp] theorem drive_clk_fields (b : Bool) (s : State) :
    (drive .clk b s).vtxCs = s.vtxCs ∧ (drive .clk b s).vtxClk = b ∧ (drive .clk b s).vtxData = s.vtxData :=
  ⟨rfl, rfl, rfl⟩

@[simp] theorem drive_data_fields (b : Bool) (s : State) :
    (drive .data b s).vtxCs = s.vtxCs ∧ (drive .data b s).vtxClk = s.vtxClk ∧ (drive .data b s).vtxData = b :=
  ⟨rfl, rfl, rfl⟩

end Sys2Proof.Machine
end

