-- ==== Sys2Proof/Laws/Transmitter.lean ====
section
/-! SUPPORT. What the transmitter does as a whole: the 75 phases emit the waveform of the frame in closed form and leave
the lines idle. -/

namespace Sys2Proof.Machine

open Sys2Proof.Safety

theorem txRun_add (m n : Nat) (s : State) : txRun (m + n) s = txRun n (txRun m s) := by
  induction m generalizing s with
  | zero => simp [txRun]
  | succ m ih => rw [Nat.succ_add]; simp only [txRun]; exact ih _

/-- One slot that is not the last: its five waveform elements, and the next slot's data phase is due. -/
theorem txRun_slot {f : Frame} {t : Nat} (h : t < 24) {s : State}
    (hs : s.tx = some { frame := f, index := ⟨t, by omega⟩, phase := .data }) :
    txRun 3 s =
      { s with
        tx := some { frame := f, index := ⟨t + 1, by omega⟩, phase := .data }
        vtxClk := false
        vtxData := f.getLsbD (24 - t)
        waveform := s.waveform ++ slotWave (f.getLsbD (24 - t)) } := by
  simp [txRun, txPhaseStep, hs, drive, waitMin, txNext, h, slotBit, slotWave]

/-- The last slot: its five elements, chip-select back to idle, and the sequencing state is gone. -/
theorem txRun_lastSlot {f : Frame} {s : State}
    (hs : s.tx = some { frame := f, index := 24, phase := .data }) :
    txRun 3 s =
      { s with
        tx := none
        vtxCs := true
        vtxClk := false
        vtxData := f.getLsbD 0
        waveform := s.waveform ++ slotWave (f.getLsbD 0) ++ [.drive .cs true] } := by
  simp [txRun, txPhaseStep, hs, drive, waitMin, txNext, slotBit, slotWave]

/-- The first `n + 1` slots of a frame, `n < 24`. -/
theorem txRun_slots {f : Frame} {s : State}
    (hs : s.tx = some { frame := f, index := 0, phase := .data }) (n : Nat) (h : n < 24) :
    txRun (3 * (n + 1)) s =
      { s with
        tx := some { frame := f, index := ⟨n + 1, by omega⟩, phase := .data }
        vtxClk := false
        vtxData := f.getLsbD (24 - n)
        waveform := s.waveform ++ (List.range (n + 1)).flatMap (fun t => slotWave (f.getLsbD (24 - t))) } := by
  induction n with
  | zero => rw [txRun_slot (by omega) hs]; simp
  | succ n ih =>
    rw [show 3 * (n + 1 + 1) = 3 * (n + 1) + 3 by ring, txRun_add, ih (by omega), txRun_slot h rfl,
      List.range_succ (n := n + 1)]
    simp

/-- `transmit(F)` in one equation (46_freq_encoder.md R125). -/
theorem transmit_eq (f : Frame) (s : State) :
    transmit f s =
      { s with
        tx := none
        vtxCs := true
        vtxClk := false
        vtxData := f.getLsbD 0
        waveform := s.waveform ++ frameWave f } := by
  unfold transmit
  rw [show (75 : Nat) = 3 * (23 + 1) + 3 by norm_num, txRun_add,
    txRun_slots (f := f) (by rfl) 23 (by omega), txRun_lastSlot (f := f) (by rfl)]
  simp [drive, frameWave, List.range_succ (n := 24)]

end Sys2Proof.Machine
end

