-- ==== Sys2Proof/Laws/Units.lean ====
section
/-! SUPPORT. One lemma for what each unit of ITERATE can do, and what ITERATE does as a whole, for the provers to cite
instead of unfolding the units. -/

namespace Sys2Proof.Machine

open Sys2Proof.Safety

/-! ### Timing -/

theorem dtOf_bounds {p : Params} (h : p.wf = true) {e : Int} (he : 0 ≤ e) : 0 ≤ dtOf p e ∧ dtOf p e ≤ p.dtMax := by
  have h1 := Params.dtMax_range h
  have h2 : 0 ≤ asr (e * (p.dtFactor : Int)) (32 - p.shift) :=
    asr_nonneg (mul_nonneg he (Int.natCast_nonneg _)) _
  unfold dtOf
  omega

theorem elapsedUs_nonneg (now since : Word) : 0 ≤ elapsedUs now since := by
  unfold elapsedUs wrapu32; omega

/-- The `DT` a tick leaves, read as a number. -/
theorem tick_dt_toInt {s : State} (h : s.params.wf = true) :
    (tick s).dt.toInt = dtOf s.params (elapsedUs s.inputs.nowUs s.lastTick) := by
  have h1 := Params.dtMax_range h
  have h2 := dtOf_bounds h (elapsedUs_nonneg s.inputs.nowUs s.lastTick)
  simp only [tick_fields]
  exact toWord_toInt_of_range (by omega) (by omega)

/-! ### Arming -/

theorem lowThrottle_iff (s : State) : lowThrottle s.params s.inputs.thr = true ↔ Low s := by
  simp [lowThrottle, Low]

theorem armYaw_iff (s : State) : armYaw s.params s.airframe s.inputs.yaw = true ↔ YawArms s := by
  unfold armYaw armYawDir YawArms
  split <;> simp [stickHi, stickLo]

theorem disarmYaw_iff (s : State) : disarmYaw s.params s.airframe s.inputs.yaw = true ↔ YawDisarms s := by
  unfold disarmYaw armYawDir YawDisarms
  split <;> simp [stickHi, stickLo]

/-- Everything the arming step of an ITERATE can do (42_arming.md R85). -/
theorem armStep_cases (s : State) :
    (Arms s ∧ armStep (lowThrottle s.params s.inputs.thr) s = armTransition s) ∨
    (Disarms s ∧ armStep (lowThrottle s.params s.inputs.thr) s = disarmTransition s) ∨
    (Starts s ∧ armStep (lowThrottle s.params s.inputs.thr) s = startTransition s) ∨
    (¬ Arms s ∧ ¬ Disarms s ∧ ¬ Starts s ∧ armStep (lowThrottle s.params s.inputs.thr) s = s) := by
  have hl := lowThrottle_iff s
  have ha := armYaw_iff s
  have hd := disarmYaw_iff s
  unfold armStep Arms Disarms Starts
  by_cases h1 : Low s <;> by_cases h2 : YawArms s <;> by_cases h3 : YawDisarms s <;>
    cases h : s.armState <;> simp_all

/-- `mode_select` by the direction bit and the roll stick (42_arming.md R87). -/
theorem modeSelect_eq {p : Params} (h : 0 ≤ p.extreme) (airframe r : Word) :
    modeSelect p airframe r =
      if r.toInt > p.extreme then (if airframe.getLsbD 2 = true then .semiAcro else .fullAcro)
      else if r.toInt < -p.extreme then (if airframe.getLsbD 2 = true then .fullAcro else .semiAcro)
      else .level := by
  unfold modeSelect fullAcroRollDir stickHi stickLo
  by_cases h1 : r.toInt > p.extreme
  · have h2 : ¬ r.toInt < -p.extreme := by omega
    cases airframe.getLsbD 2 <;> simp [h1, h2]
  · have h1' : ¬ p.extreme < r.toInt := h1
    by_cases h2 : r.toInt < -p.extreme <;> cases airframe.getLsbD 2 <;> simp [h1', h2]

/-! ### Gesture -/

theorem stick_gestureAxis (p : Params) (inp : Inputs) : stick inp p.gestureAxis = watched p inp := by
  unfold stick watched; cases p.gestureAxis <;> rfl

theorem gestSide_eq_some {p : Params} (h : 0 ≤ p.gestureT) {inp : Inputs} {sd : GestState} :
    gestSide p (watched p inp) = some sd ↔ OnSide p inp sd := by
  unfold gestSide OnSide
  split
  · constructor
    · intro e; cases e; exact .inl ⟨rfl, by assumption⟩
    · rintro (⟨rfl, -⟩ | ⟨-, h2⟩)
      · rfl
      · omega
  · split
    · constructor
      · intro e; cases e; exact .inr ⟨rfl, by assumption⟩
      · rintro (⟨-, h2⟩ | ⟨rfl, -⟩)
        · omega
        · rfl
    · constructor
      · intro e; cases e
      · rintro (⟨-, h2⟩ | ⟨-, h2⟩) <;> omega

theorem gestSide_eq_none {p : Params} {inp : Inputs} : gestSide p (watched p inp) = none ↔ InDeadband p inp := by
  unfold gestSide InDeadband
  split
  · simp; omega
  · split <;> simp <;> omega

/-- The working values a gesture step starts from. -/
def gestWorkOf (s : State) : GestWork := { state := s.gestState, count := s.gestCount.toNat, t0 := s.gestT0 }

/-- The deadline test of a gesture step (43_gesture.md R96). -/
theorem gestDeadline_eq (s : State) : gestDeadline s.params s.inputs.nowUs (gestWorkOf s) =
    if GestureLate s then { state := .start, count := 0, t0 := s.gestT0 } else gestWorkOf s := by
  rfl

/-- A side is never Start (43_gesture.md R97). -/
theorem onSide_ne_start {p : Params} {inp : Inputs} {sd : GestState} (h : OnSide p inp sd) : sd ≠ .start := by
  rcases h with ⟨rfl, -⟩ | ⟨rfl, -⟩ <;> simp

/-- The gesture step, after its deadline and crossing tests are settled. -/
theorem gestureStep_eq (s : State) : gestureStep s =
    gestFire (gestCross (gestSide s.params (watched s.params s.inputs)) s.inputs.nowUs
      (if GestureLate s then { state := .start, count := 0, t0 := s.gestT0 } else gestWorkOf s)) s := by
  rw [← gestDeadline_eq, ← stick_gestureAxis]
  rfl

theorem gestFire_of_ne {g : GestWork} {s : State} (h : g.count ≠ s.params.gestureN) : gestFire g s = storeGest g s := by
  simp [gestFire, h]

theorem gestFire_of_eq {g : GestWork} {s : State} (h : g.count = s.params.gestureN) :
    gestFire g s = storeGest { g with state := .start, count := 0 } (emit .save (emit .calGesture s)) := by
  simp [gestFire, h]

theorem storeGest_gestWorkOf (s : State) : storeGest (gestWorkOf s) s = s := by
  simp [storeGest, gestWorkOf]

/-! ### PID and mixer -/

/-- What the axis `a` reads and writes (44_pid.md R107), as the pair of its new registers. -/
def pidLane (p : Params) (airframe dt : Word) (low : Bool) (gsm : Int) (a : Axis) (e g i kp ki kd : Word) : Word × Word :=
  let i' := toWord (integStep p low i.toInt e.toInt dt.toInt)
  (i', toWord (yawSign (yawInvert airframe) a
    (fpmul p (controlLaw p e.toInt g.toInt i'.toInt kp.toInt ki.toInt kd.toInt) gsm)))

/-- The lane of axis `a` in a state. -/
def pidLaneOf (s : State) (low : Bool) (gsm : Int) (a : Axis) : Word × Word :=
  pidLane s.params s.airframe s.dt low gsm a (s.inputs.err.get a) (s.inputs.gyro.get a) (s.integ.get a)
    (s.act.kp.get a) (s.act.ki.get a) (s.act.kd.get a)

@[simp] theorem pidAxis_integ (low : Bool) (gsm : Int) (a : Axis) (s : State) :
    (pidAxis low gsm a s).integ = s.integ.set a (pidLaneOf s low gsm a).1 := rfl

@[simp] theorem pidAxis_pidOut (low : Bool) (gsm : Int) (a : Axis) (s : State) :
    (pidAxis low gsm a s).pidOut = s.pidOut.set a (pidLaneOf s low gsm a).2 := rfl

theorem pidAll_get (low : Bool) (gsm : Int) (s : State) (a : Axis) :
    (pidAll low gsm s).integ.get a = (pidLaneOf s low gsm a).1 ∧
    (pidAll low gsm s).pidOut.get a = (pidLaneOf s low gsm a).2 := by
  cases a <;> exact ⟨rfl, rfl⟩

theorem throttleOutput_bounds (p : Params) (thr idle : Word) :
    0 ≤ throttleOutput p thr idle ∧ throttleOutput p thr idle ≤ one p :=
  clamp_bounds _ (one_pos p).le

theorem motorCommand_bounds {p : Params} (h : p.wf = true) (gate : Bool) (acc : Int) :
    p.minMotorOutput ≤ motorCommand p gate acc ∧ motorCommand p gate acc ≤ one p := by
  obtain ⟨-, -, ⟨-, h2⟩, -⟩ := Params.wf_facts h
  unfold motorCommand
  split
  · exact clamp_bounds _ h2
  · exact ⟨le_refl _, h2⟩

/-- A motor register holds its command: no wrap. -/
theorem motorCommand_toInt {p : Params} (h : p.wf = true) (gate : Bool) (acc : Int) :
    (toWord (motorCommand p gate acc)).toInt = motorCommand p gate acc := by
  have h1 := Params.one_le_of_wf h
  have h2 := motorCommand_bounds h gate acc
  obtain ⟨-, -, ⟨h3, -⟩, -⟩ := Params.wf_facts h
  exact toWord_toInt_of_range (by omega) (by omega)

theorem minMotor_toInt {p : Params} (h : p.wf = true) : (toWord p.minMotorOutput).toInt = p.minMotorOutput := by
  simpa [motorCommand] using motorCommand_toInt h false 0

/-- The new integrator of a well-formed instance stays in the bound (44_pid.md R109). -/
theorem integStep_bounds {p : Params} (h : p.wf = true) (low : Bool) {i : Int} (e dt : Int)
    (hi : -p.limit ≤ i ∧ i ≤ p.limit) :
    -p.limit ≤ integStep p low i e dt ∧ integStep p low i e dt ≤ p.limit := by
  obtain ⟨-, ⟨hl, hl'⟩, -, ⟨ha, ha'⟩, -⟩ := Params.wf_facts h
  unfold integStep
  split
  · rcases le_total 0 i with h0 | h0
    · have h1 := asr_mul_between_of_nonneg h0 ha ha'
      rw [fpmul, wrap32_of_range (v := asr _ _) (by omega) (by omega), wrap32_of_range (by omega) (by omega)]
      omega
    · have h1 := asr_mul_between_of_nonpos h0 ha ha'
      rw [fpmul, wrap32_of_range (v := asr _ _) (by omega) (by omega), wrap32_of_range (by omega) (by omega)]
      omega
  · exact clamp_bounds _ (by omega)

/-! ### ITERATE as a whole -/

/-- The state after the arming step of an ITERATE. -/
def armed (s : State) : State := armStep (lowThrottle s.params s.inputs.thr) (tick (lockConfig s))

/-- Everything the arming step of an ITERATE can do, on the state it runs on. -/
theorem armed_cases (s : State) :
    (Arms s ∧ armed s = armTransition (tick (lockConfig s))) ∨
    (Disarms s ∧ armed s = disarmTransition (tick (lockConfig s))) ∨
    (Starts s ∧ armed s = startTransition (tick (lockConfig s))) ∨
    (¬ Arms s ∧ ¬ Disarms s ∧ ¬ Starts s ∧ armed s = tick (lockConfig s)) := by
  simpa [armed, Arms, Disarms, Starts, Low, YawArms, YawDisarms] using armStep_cases (tick (lockConfig s))

/-- The registers ITERATE takes from its arming and gesture steps. -/
theorem iterate_gate_fields (s : State) :
    (iterate s).armState = (armed s).armState ∧ (iterate s).flightMode = (armed s).flightMode ∧
    (iterate s).act = (armed s).act ∧
    (iterate s).gestState = (gestureIfEnabled (lowThrottle s.params s.inputs.thr) (armed s)).gestState ∧
    (iterate s).gestCount = (gestureIfEnabled (lowThrottle s.params s.inputs.thr) (armed s)).gestCount ∧
    (iterate s).gestT0 = (gestureIfEnabled (lowThrottle s.params s.inputs.thr) (armed s)).gestT0 ∧
    (iterate s).events = (gestureIfEnabled (lowThrottle s.params s.inputs.thr) (armed s)).events := by
  simp [iterate, armed]

/-- What ITERATE writes directly and what it leaves (40_commands.md R74). -/
@[simp] theorem iterate_frame (s : State) :
    (iterate s).cfgLock = true ∧ (iterate s).lowThr = lowThrottle s.params s.inputs.thr ∧
    (iterate s).failsafe = s.inputs.failsafeIn ∧ (iterate s).lastTick = s.inputs.nowUs ∧
    (iterate s).dt = (tick s).dt ∧ (iterate s).params = s.params ∧ (iterate s).preset = s.preset ∧
    (iterate s).airframe = s.airframe ∧ (iterate s).mixSigns = s.mixSigns ∧ (iterate s).idleOffset = s.idleOffset ∧
    (iterate s).gsf = s.gsf ∧ (iterate s).cfgErr = s.cfgErr ∧ (iterate s).illegalCmd = s.illegalCmd ∧
    (iterate s).freqResult = s.freqResult ∧ (iterate s).dout = s.dout ∧ (iterate s).lastFreq = s.lastFreq ∧
    (iterate s).vtxCs = s.vtxCs ∧ (iterate s).vtxClk = s.vtxClk ∧ (iterate s).vtxData = s.vtxData ∧
    (iterate s).tx = s.tx ∧ (iterate s).waveform = s.waveform ∧ (iterate s).inputs = s.inputs ∧
    (iterate s).host = s.host := by
  simp [iterate]

/-- The integrators and control outputs of an ITERATE, lane by lane. -/
theorem iterate_pid (s : State) (a : Axis) :
    ((iterate s).integ.get a, (iterate s).pidOut.get a) =
      pidLane s.params s.airframe (tick s).dt (lowThrottle s.params s.inputs.thr)
        (gainSchedule s.params (throttleOutput s.params s.inputs.thr s.idleOffset) s.gsf.toInt) a
        (s.inputs.err.get a) (s.inputs.gyro.get a) (s.integ.get a)
        ((iterate s).act.kp.get a) ((iterate s).act.ki.get a) ((iterate s).act.kd.get a) := by
  simp [iterate, pidAll_get, pidLaneOf]

/-- The motors of an ITERATE. -/
theorem iterate_motor (s : State) (m : Fin 4) :
    (iterate s).motor.get m =
      toWord (motorCommand s.params ((iterate s).armState == .armedStarted && !lowThrottle s.params s.inputs.thr)
        (mixAcc s.mixSigns (throttleOutput s.params s.inputs.thr s.idleOffset) (iterate s).pidOut m)) := by
  simp [iterate, gateOpen]

/-! ### The gesture step inside an ITERATE -/

theorem not_arms_of_gestureRuns {s : State} (h : GestureRuns s) : ¬ Arms s := by
  rintro ⟨h1, -, h3⟩
  rcases h with ⟨-, ⟨-, h⟩ | h⟩
  · exact h h3
  · exact h.1 h1

/-- The enabling condition of the gesture step, on the state before the ITERATE (43_gesture.md R95). -/
theorem gestureRuns_iff (s : State) : GestureRuns s ↔ (armed s).armState = .disarmed ∧ Low s := by
  rcases armed_cases s with ⟨h, e⟩ | ⟨h, e⟩ | ⟨h, e⟩ | ⟨h1, h2, h3, e⟩ <;> rw [e] <;> simp
  · exact fun h' => not_arms_of_gestureRuns h' h
  · exact ⟨fun h' => h'.1, fun hl => ⟨hl, .inr h⟩⟩
  · exact fun h' => h.2 h'.1
  · constructor
    · rintro ⟨hl, ⟨h', -⟩ | h'⟩
      · exact ⟨h', hl⟩
      · exact absurd h' h2
    · rintro ⟨h, hl⟩
      exact ⟨hl, .inl ⟨h, fun hy => h1 ⟨h, hl, hy⟩⟩⟩

theorem gestureIfEnabled_of_runs {s : State} (h : GestureRuns s) :
    gestureIfEnabled (lowThrottle s.params s.inputs.thr) (armed s) = gestureStep (armed s) := by
  rw [gestureIfEnabled, if_pos]
  rwa [lowThrottle_iff, ← gestureRuns_iff]

theorem gestureIfEnabled_of_not_runs {s : State} (h : ¬ GestureRuns s) :
    gestureIfEnabled (lowThrottle s.params s.inputs.thr) (armed s) = armed s := by
  rw [gestureIfEnabled, if_neg]
  rwa [lowThrottle_iff, ← gestureRuns_iff]

/-- Without an arm transition, the arming step leaves the gesture detector. -/
theorem armed_gesture_fields {s : State} (h : ¬ Arms s) :
    (armed s).gestState = s.gestState ∧ (armed s).gestCount = s.gestCount ∧ (armed s).gestT0 = s.gestT0 ∧
    (armed s).events = s.events ∧ (armed s).params = s.params ∧ (armed s).inputs = s.inputs := by
  rcases armed_cases s with ⟨h', e⟩ | ⟨h', e⟩ | ⟨h', e⟩ | ⟨-, -, -, e⟩
  · exact absurd h' h
  all_goals rw [e]; simp

/-- The working values of a gesture step after its deadline and crossing tests (43_gesture.md R96, R98). -/
def gestSettled (s : State) : GestWork :=
  gestCross (gestSide s.params (watched s.params s.inputs)) s.inputs.nowUs
    (if GestureLate s then { state := .start, count := 0, t0 := s.gestT0 } else gestWorkOf s)

/-- What an ITERATE that runs the gesture step leaves in the detector (43_gesture.md R99). -/
theorem iterate_gesture {s : State} (h : GestureRuns s) :
    ((gestSettled s).count ≠ s.params.gestureN →
      (iterate s).gestState = (gestSettled s).state ∧
      (iterate s).gestCount = BitVec.ofNat 3 (gestSettled s).count ∧
      (iterate s).gestT0 = (gestSettled s).t0 ∧ (iterate s).events = s.events) ∧
    ((gestSettled s).count = s.params.gestureN →
      (iterate s).gestState = .start ∧ (iterate s).gestCount = 0#3 ∧ (iterate s).gestT0 = (gestSettled s).t0 ∧
      (iterate s).events = s.events ++ [.calGesture, .save]) := by
  obtain ⟨-, -, -, e4, e5, e6, e7⟩ := iterate_gate_fields s
  obtain ⟨a1, a2, a3, a4, a5, a6⟩ := armed_gesture_fields (not_arms_of_gestureRuns h)
  have hg : gestSettled (armed s) = gestSettled s := by
    simp only [gestSettled, GestureLate, gestWorkOf, a1, a2, a3, a5, a6]
  rw [e4, e5, e6, e7, gestureIfEnabled_of_runs h, gestureStep_eq]
  rw [gestSettled] at hg
  rw [hg]
  constructor <;> intro hc
  · rw [gestFire_of_ne (by rw [a5]; exact hc)]
    simp [a4]
  · rw [gestFire_of_eq (by rw [a5]; exact hc)]
    simp [a4]

end Sys2Proof.Machine
end

