-- ==== Sys2Proof/Laws/Step.lean ====
section
/-! SUPPORT. What each command and each step can do, once: the provers cite these instead of unfolding `exec` and
`step`. -/

namespace Sys2Proof.Machine

open Sys2Proof.Safety

/-- Everything a write of the register space can do (40_commands.md R71). -/
theorem regWrite_cases (addr : RegAddr) (v : Word) (s : State) :
    (∃ r, regAt addr = some r ∧ r.writable = true ∧ s.cfgLock = false ∧ regWrite addr v s = cfgStore v s r) ∨
    ((regAt addr = none ∨ (∃ r, regAt addr = some r ∧ r.writable = false) ∨ s.cfgLock = true) ∧
      regWrite addr v s = setCfgErr s) := by
  unfold regWrite
  cases h : regAt addr with
  | none => simp
  | some r => cases hw : r.writable <;> cases hl : s.cfgLock <;> simp [hw]

/-- Everything CFG_READ can do (40_commands.md R72). -/
theorem execCfgRead_cases (addr : RegAddr) (s : State) :
    (∃ r, regAt addr = some r ∧ execCfgRead addr s = .next { s with dout := regValue s r }) ∨
    (regAt addr = none ∧ execCfgRead addr s = .next { s with dout := 0#32, cfgErr := true }) := by
  unfold execCfgRead regRead
  cases h : regAt addr with
  | none => exact .inr ⟨rfl, rfl⟩
  | some r => exact .inl ⟨r, rfl, rfl⟩

/-- Everything FREQ_REQ can do, with the frame as the instance's table has it (46_freq_encoder.md R128). -/
theorem execFreqReq_shape (s : State) :
    (validFreq s.inputs.din.toNat = false ∧ execFreqReq s = .next { s with freqResult := .rejected }) ∨
    (validFreq s.inputs.din.toNat = true ∧ s.inputs.din = s.lastFreq ∧
      execFreqReq s = .next { s with freqResult := .unchanged }) ∨
    (validFreq s.inputs.din.toNat = true ∧ s.inputs.din ≠ s.lastFreq ∧
      ∃ f, f = s.params.frameTable.getD (channelIndex s.inputs.din.toNat) 0#25 ∧
      execFreqReq s = .next { s with
        freqResult := .sent
        lastFreq := s.inputs.din
        tx := none
        vtxCs := true
        vtxClk := false
        vtxData := f.getLsbD 0
        waveform := s.waveform ++ frameWave f }) := by
  unfold execFreqReq requestedFreq
  cases hv : validFreq s.inputs.din.toNat with
  | false => exact .inl ⟨rfl, by simp [hv, setFreqResult]⟩
  | true =>
    refine .inr ?_
    by_cases he : s.inputs.din = s.lastFreq
    · exact .inl ⟨rfl, he, by rw [he] at hv; simp [he, hv, setFreqResult]⟩
    · have he' : ¬ s.inputs.din.toNat = s.lastFreq.toNat := fun e => he (BitVec.eq_of_toNat_eq e)
      refine .inr ⟨rfl, he, _, rfl, ?_⟩
      dsimp only
      rw [transmit_eq]
      simp only [hv, he', Bool.not_true, Bool.false_eq_true, if_false, setFreqResult]

/-- Everything FREQ_REQ can do in a well-formed instance: the frame is the closed-form one. -/
theorem execFreqReq_cases {s : State} (h : s.params.wf = true) :
    (validFreq s.inputs.din.toNat = false ∧ execFreqReq s = .next { s with freqResult := .rejected }) ∨
    (validFreq s.inputs.din.toNat = true ∧ s.inputs.din = s.lastFreq ∧
      execFreqReq s = .next { s with freqResult := .unchanged }) ∨
    (validFreq s.inputs.din.toNat = true ∧ s.inputs.din ≠ s.lastFreq ∧
      execFreqReq s = .next { s with
        freqResult := .sent
        lastFreq := s.inputs.din
        tx := none
        vtxCs := true
        vtxClk := false
        vtxData := false
        waveform := s.waveform ++ frameWave (frameOf (channelIndex s.inputs.din.toNat)) }) := by
  rcases execFreqReq_shape s with h1 | h2 | ⟨hv, he, f, hf, hx⟩
  · exact .inl h1
  · exact .inr (.inl h2)
  · rw [frameTable_getD h (channelIndex_lt ((validFreq_iff _).1 hv).2.1)] at hf
    subst hf
    exact .inr (.inr ⟨hv, he, by rw [hx, frameOf_lastBit]⟩)

/-- Every command completes (60_exceptions.md R130); the next state of each. -/
theorem exec_total (i : Instr) (s : State) : ∃ t, exec i s = .next t := by
  cases i with
  | nop => exact ⟨_, rfl⟩
  | cfgWrite addr => exact ⟨_, rfl⟩
  | cfgRead addr =>
    rcases execCfgRead_cases addr s with ⟨r, -, h⟩ | ⟨-, h⟩ <;> exact ⟨_, h⟩
  | iterate => exact ⟨_, rfl⟩
  | freqReq =>
    rcases execFreqReq_shape s with ⟨-, h⟩ | ⟨-, -, h⟩ | ⟨-, -, f, -, h⟩ <;> exact ⟨_, h⟩
  | clrStatus => exact ⟨_, rfl⟩

/-- Everything a step that answers a next state can have done. -/
theorem step_cases {s t : State} (h : step s = .next t) :
    s.params.wf = true ∧
    ((s.host = [] ∧ t = s) ∨
     (∃ now rest, s.host = .reset now :: rest ∧ t = State.resetWith s.params now rest) ∨
     (∃ inp rest i, s.host = .command inp :: rest ∧ decode inp.cmd = .instr i ∧
       exec i (beginCommand inp rest s) = .next t) ∨
     (∃ inp rest r, s.host = .command inp :: rest ∧ decode inp.cmd = .illegal r ∧
       t = setIllegalCmd (beginCommand inp rest s))) := by
  unfold step at h
  split at h
  · rename_i hwf
    refine ⟨hwf, ?_⟩
    split at h
    · rename_i hh
      cases h
      exact .inl ⟨hh, rfl⟩
    · rename_i now rest hh
      cases h
      exact .inr (.inl ⟨now, rest, hh, rfl⟩)
    · rename_i inp rest hh
      split at h
      · rename_i i hd
        exact .inr (.inr (.inl ⟨inp, rest, i, hh, hd, h⟩))
      · rename_i r hd
        cases h
        exact .inr (.inr (.inr ⟨inp, rest, r, hh, hd, rfl⟩))
  · cases h

/-- The five commands other than ITERATE, and the illegal word, change only these registers. -/
theorem exec_control_frame {i : Instr} {s t : State} (hi : i ≠ .iterate) (h : exec i s = .next t) :
    t.params = s.params ∧ t.armState = s.armState ∧ t.flightMode = s.flightMode ∧ t.act = s.act ∧
    t.integ = s.integ ∧ t.pidOut = s.pidOut ∧ t.lastTick = s.lastTick ∧ t.dt = s.dt ∧
    t.gestState = s.gestState ∧ t.gestCount = s.gestCount ∧ t.gestT0 = s.gestT0 ∧ t.motor = s.motor ∧
    t.lowThr = s.lowThr ∧ t.failsafe = s.failsafe ∧ t.cfgLock = s.cfgLock ∧ t.events = s.events ∧
    t.inputs = s.inputs ∧ t.host = s.host := by
  cases i with
  | nop => cases h; simp
  | cfgWrite addr =>
    have h : Host.Outcome.next (regWrite addr s.inputs.din s) = .next t := h
    cases h
    rcases regWrite_cases addr s.inputs.din s with ⟨r, -, -, -, e⟩ | ⟨-, e⟩ <;> rw [e]
    · cases r <;> simp [cfgStore]
    · simp
  | cfgRead addr =>
    rcases execCfgRead_cases addr s with ⟨r, -, e⟩ | ⟨-, e⟩ <;>
      (have h : execCfgRead addr s = .next t := h; rw [e] at h; cases h; simp)
  | iterate => exact absurd rfl hi
  | freqReq =>
    have h : execFreqReq s = .next t := h
    rcases execFreqReq_shape s with ⟨-, e⟩ | ⟨-, -, e⟩ | ⟨-, -, f, -, e⟩ <;> (rw [e] at h; cases h; simp)
  | clrStatus => cases h; simp [clearSticky]

/-- One step never changes the instance. -/
theorem step_params {s t : State} (h : step s = .next t) : t.params = s.params := by
  obtain ⟨-, ⟨-, rfl⟩ | ⟨now, rest, -, rfl⟩ | ⟨inp, rest, i, -, -, he⟩ | ⟨inp, rest, r, -, -, rfl⟩⟩ := step_cases h
  · rfl
  · rfl
  · by_cases hi : i = .iterate
    · subst hi
      cases he
      simp
    · simpa using (exec_control_frame hi he).1
  · simp

/-- A run whose first step goes on. -/
theorem run_succ {k : Nat} {s t : State} (h : step s = .next t) :
    Host.Core.run Sys2Proof.core (k + 1) s = Host.Core.run Sys2Proof.core k t := by
  have h' : Sys2Proof.core.step s = .next t := h
  simp only [Host.Core.run, h']

/-- A run and one step more. -/
theorem run_snoc {k : Nat} {s t u : State} (h : Host.Core.run Sys2Proof.core k s = .next t) (h' : step t = .next u) :
    Host.Core.run Sys2Proof.core (k + 1) s = .next u := by
  induction k generalizing s with
  | zero =>
    cases Host.Outcome.next.inj h
    exact run_succ h'
  | succ k ih =>
    cases hs : step s with
    | next v =>
      rw [run_succ hs] at h ⊢
      exact ih h
    | fault r => exact nomatch r
    | refused r =>
      have hs' : Sys2Proof.core.step s = .refused r := hs
      simp [Host.Core.run, hs'] at h

end Sys2Proof.Machine
end

