-- ==== Sys2Proof/Tests/Slice0.lean ====
section
/-! SUPPORT. Tests: ill-formed parameter sets refused, command words written out from 30_encoding.md R58 to R60, vectors of
95_test_vectors.md (each named in its comment; they are derived from the rules by the spec's authors), and for every
statement with hypotheses a witness that meets them. -/

namespace Sys2Proof.Tests

open Sys2Proof.Machine Sys2Proof.Safety

/-! ### Helpers -/

/-- A check of the next state; false for a fault or a refusal. -/
def after (o : Host.Outcome State Fault Refusal) (f : State → Bool) : Bool :=
  match o with
  | .next t => f t
  | .fault _ => false
  | .refused _ => false

/-- The reference parameters with some value of the two OPEN ones: two auxiliary channels. -/
def params : Params := Params.referenceWith 10 2

/-- The reset state with the timer at 123 (the start of vectors C1 to C17). -/
def base : State := State.resetWith params 123#32 []

/-- A bundle with a command word, a timer value and the sticks. -/
def bundle (cmd : Word) (now : Nat) (thr roll yaw : Int) : Inputs :=
  { Inputs.quiet 2 (BitVec.ofNat 32 now) with cmd := cmd, thr := toWord thr, roll := toWord roll, yaw := toWord yaw }

/-- `s` about to run a command on these sticks. -/
def at_ (s : State) (now : Nat) (thr roll yaw : Int) : State := { s with inputs := bundle 3 now thr roll yaw }

/-- `s` with a value on `DIN`. -/
def din (s : State) (v : Word) : State := { s with inputs := { s.inputs with din := v } }

/-- `s` with a host that presents these commands. -/
def hosting (s : State) (h : List HostAct) : State := { s with host := h }

/-- A command word and a value on `DIN`. -/
def word (cmd v : Word) : HostAct := .command { Inputs.quiet 2 0#32 with cmd := cmd, din := v }

/-- The gains of program P1 on the roll axis. -/
def p1Gains : Gains := ⟨⟨65536, 0, 0⟩, ⟨32768, 0, 0⟩, ⟨16384, 0, 0⟩⟩

/-- Program P1 before its line 7: armed in Level, the last tick at 10000. -/
def p1 : State :=
  { base with
    armState := .armedNotStarted
    preset := ⟨p1Gains, Gains.zero, Gains.zero⟩
    act := p1Gains
    idleOffset := 2048
    lastTick := 10000
    dt := 655
    cfgLock := true
    lowThr := true }

/-- Line 7 of program P1. -/
def p1Line7 : State :=
  { p1 with inputs := { bundle 3 30000 0 0 0 with err := ⟨32768, 0, 0⟩, gyro := ⟨16384, 0, 0⟩ } }

/-- In the air: program P1 after its line 7. -/
def flying : State :=
  { p1 with
    armState := .armedStarted
    integ := ⟨655, 0, 0⟩
    pidOut := ⟨29588, 0, 0⟩
    motor := ⟨5228, 5228, 64404, 64404⟩
    lastTick := 30000
    dt := 1310
    lowThr := false }

/-- Disarmed, two crossings counted, the last one High at 600000 (vector G6). -/
def counting : State :=
  { base with gestState := .high, gestCount := 2, gestT0 := 600000, lastTick := 600000, cfgLock := true, lowThr := true }

/-- `counting` with the fifth crossing done. -/
def almost : State := { counting with gestCount := 5 }

/-- An instance whose gesture fires at the first crossing. -/
def oneCrossing : State := { base with params := { params with gestureN := 1 } }

/-- Seven crossings counted of eight, the largest `GESTURE_N` (log 11). -/
def almostEight : State := { counting with params := { params with gestureN := 8 }, gestCount := 7 }

/-- The six samples of program P2. -/
def p2 (i : Nat) : Inputs := bundle 3 (100000 + 200000 * i) (-65536) (if i % 2 = 0 then -40000 else 40000) 0

/-- Program P2 from reset. -/
def p2Start : State := hosting base ((List.range 6).map fun i => .command (p2 i))

/-! ### Well-formed parameters (00_scope.md R6): one ill-formed set for each condition -/

theorem test_wf_reference : Params.reference.wf = true := by decide
theorem test_wf_w : { Params.reference with w := 16 }.wf = false := by decide
theorem test_wf_shift_low : { Params.reference with shift := 0, dtMax := 0, minMotorOutput := 0, decayAlpha := 0 }.wf = false := by
  decide
theorem test_wf_shift_high : { Params.reference with shift := 31, dtMax := 42949672 }.wf = false := by decide
theorem test_wf_limit_negative : { Params.reference with limit := -1 }.wf = false := by decide
theorem test_wf_limit_high : { Params.reference with limit := 2147483648 }.wf = false := by decide
theorem test_wf_motor_floor_negative : { Params.reference with minMotorOutput := -1 }.wf = false := by decide
theorem test_wf_motor_floor_high : { Params.reference with minMotorOutput := 65537 }.wf = false := by decide
theorem test_wf_decay_negative : { Params.reference with decayAlpha := -1 }.wf = false := by decide
theorem test_wf_decay_high : { Params.reference with decayAlpha := 65537 }.wf = false := by decide
theorem test_wf_gestureT : { Params.reference with gestureT := -1 }.wf = false := by decide
theorem test_wf_extreme : { Params.reference with extreme := -1 }.wf = false := by decide
theorem test_wf_gestureN_low : { Params.reference with gestureN := 0 }.wf = false := by decide
theorem test_wf_gestureN_high : { Params.reference with gestureN := 9 }.wf = false := by decide
theorem test_wf_dtMax : { Params.reference with dtMax := 1311 }.wf = false := by decide
theorem test_wf_frameTable : { Params.reference with frameTable := Config.printedFrameTable.reverse }.wf = false := by decide

/-! ### Command words, `RSVD ++ ADDR ++ OP` (30_encoding.md R58, R59) -/

theorem test_decode_nop : decode (0#20 ++ 0b00000000#8 ++ 0b0000#4) = .instr .nop := by decide
theorem test_decode_cfgWrite : decode (0#20 ++ 0b00100010#8 ++ 0b0001#4) = .instr (.cfgWrite 0x22) := by decide
theorem test_decode_cfgRead : decode (0#20 ++ 0b01000111#8 ++ 0b0010#4) = .instr (.cfgRead 0x47) := by decide
theorem test_decode_iterate : decode (0#20 ++ 0b00000000#8 ++ 0b0011#4) = .instr .iterate := by decide
theorem test_decode_freqReq : decode (0#20 ++ 0b00000000#8 ++ 0b0100#4) = .instr .freqReq := by decide
theorem test_decode_clrStatus : decode (0#20 ++ 0b00000000#8 ++ 0b0101#4) = .instr .clrStatus := by decide
/-- The words of 30_encoding.md R68 and 95_test_vectors.md C2, C14, P4 line 3. -/
theorem test_decode_addresses : decode 0x00000202 = .instr (.cfgRead 0x20) ∧ decode 0x00000051 = .instr (.cfgWrite 0x05) ∧
    decode 0x00000992 = .instr (.cfgRead 0x99) := by decide
/-- C19 to C26. -/
theorem test_decode_illegal : decode 0x00000006 = .illegal .badOp ∧ decode 0x0000000F = .illegal .badOp ∧
    decode 0x00000013 = .illegal .strayAddr ∧ decode 0x00000010 = .illegal .strayAddr ∧
    decode 0x00000025 = .illegal .strayAddr ∧ decode 0x00001000 = .illegal .reservedBits ∧
    decode 0x80000003 = .illegal .reservedBits := by decide
theorem test_table_word : decodeTableWord 32 0x221 = some (.cfgWrite 0x22) ∧ decodeTableWord 32 0x6 = none := by decide

/-! ### Vectors -/

/-- C1. -/
theorem test_nop : exec .nop base = .next base ∧ statusWord base = 0 := ⟨rfl, by decide⟩
/-- C3, C5. -/
theorem test_cfgRead : after (exec (.cfgRead 0x21) base) (fun t => t.dout == 0xC1D) = true ∧
    after (exec (.cfgRead 0x44) base) (fun t => t.dout == 123) = true := by decide
/-- C8, C10. -/
theorem test_cfgRead_unmapped : after (exec (.cfgRead 0x1B) base) (fun t => t.dout == 0 && statusWord t == 0x1000) = true ∧
    after (exec (.cfgRead 0xFF) base) (fun t => t.dout == 0 && statusWord t == 0x1000) = true := by decide
/-- C12, C13, C14. -/
theorem test_cfgWrite : after (exec (.cfgWrite 0x20) (din base 0xFFFFFFFF)) (fun t => t.airframe == 7 && !t.cfgErr) = true ∧
    after (exec (.cfgWrite 0x21) (din base 0xFFFFFFFF)) (fun t => t.mixSigns == 0xFFF && !t.cfgErr) = true ∧
    after (exec (.cfgWrite 0x05) (din base 0xFFFF0000)) (fun t => t.preset.level.ki.yaw == 0xFFFF0000) = true := by decide
/-- C15, C17, C18. -/
theorem test_cfgWrite_refused : after (exec (.cfgWrite 0x1B) (din base 5)) (fun t => statusWord t == 0x1000) = true ∧
    after (exec (.cfgWrite 0x47) (din base 5)) (fun t => statusWord t == 0x1000) = true ∧
    after (exec (.cfgWrite 0x22) (din p1 77)) (fun t => t.cfgErr && t.idleOffset == 2048) = true := by decide
/-- P4 line 5. -/
theorem test_clrStatus : after (exec .clrStatus { base with cfgErr := true, illegalCmd := true })
    (fun t => statusWord t == 0) = true := by decide
/-- C23, P4 line 7: an illegal word, through a step. -/
theorem test_illegal_word : after (step (hosting base [word 0x25 0])) (fun t => statusWord t == 0x2000 && !t.cfgLock) = true := by
  decide
/-- `AUX[0 .. N_AUX-1]` are the ports (10_state.md R39). -/
theorem test_sample_aux : sampleAux 2 [7, 8, 9] = [7, 8] ∧ sampleAux 0 [7] = [] := by decide
/-- T10, T11. -/
theorem test_tick : (tick { at_ base 4 0 0 0 with lastTick := 5 }).dt = 1310 ∧
    (tick { at_ base 0x10 0 0 0 with lastTick := 0xFFFFFF00 }).dt = 17 := by decide
/-- A1, A3. -/
theorem test_iterate_arm : after (exec .iterate (at_ base 10000 (-65536) 60000 60000))
      (fun t => statusWord t == 0xA09 && t.events == [.calArm]) = true ∧
    after (exec .iterate (at_ base 10000 (-65536) 49152 60000)) (fun t => statusWord t == 0xA01) = true := by decide
/-- P1 line 7. -/
theorem test_iterate_flight : after (exec .iterate p1Line7) (fun t => t.integ == ⟨655, 0, 0⟩ && t.pidOut == ⟨29588, 0, 0⟩ &&
    t.motor == ⟨5228, 5228, 64404, 64404⟩ && t.dt == 1310 && statusWord t == 0x802) = true := by decide
/-- G8, G11 and P2 line 6; the eighth of eight crossings (R99 as log 11 reads it). -/
theorem test_gesture : after (exec .iterate (at_ counting 800000 (-65536) (-40000) 0)) (fun t => statusWord t == 0xAD0) = true ∧
    after (exec .iterate (at_ { base with armState := .armedNotStarted } 1000000 (-65536) 40000 (-60000)))
      (fun t => statusWord t == 0xA60 && t.gestT0 == 1000000) = true ∧
    after (exec .iterate (at_ almost 700000 (-65536) (-40000) 0))
      (fun t => statusWord t == 0xA00 && t.events == [.calGesture, .save]) = true ∧
    after (exec .iterate (at_ almostEight 700000 (-65536) (-40000) 0))
      (fun t => statusWord t == 0xA00 && t.events == [.calGesture, .save]) = true := by decide
/-- I8, I13, L7, S8, Y4, Y6. -/
theorem test_pid : integStep Params.reference true (-100) 0 0 = -87 ∧
    integStep Params.reference false 0 2147483647 1310 = 65536 ∧
    controlLaw Params.reference 2147483647 (-2147483647) 0 65536 0 65536 = -2 ∧
    gainSchedule Params.reference 0 (-65536) = 98304 ∧
    yawSign true .yaw (fpmul Params.reference (-1) 32768) = 1 ∧ fpmul Params.reference 2147483647 98304 = -1073741826 := by
  decide
/-- X1, X7: `acc`. -/
theorem test_mix : (List.finRange 4).map (mixAcc 0xC1D 32768 ⟨1000, 2000, 3000⟩) = [30768, 32768, 38768, 28768] ∧
    (List.finRange 4).map (mixAcc 0xC1D 65536 ⟨0x7FFFFFFF, 0x7FFFFFFF, 0x7FFFFFFF⟩) =
      [-2147418111, -2147418111, 6442516477, -2147418111] := by decide
/-- P3 lines 2, 3, 5. -/
theorem test_freqReq_no_send : after (exec .freqReq (din { base with lastFreq := 5765 } 5765)) (fun t => statusWord t == 0x8000) = true ∧
    after (exec .freqReq (din base 5766)) (fun t => statusWord t == 0xC000 && t.lastFreq == 0) = true ∧
    after (exec .freqReq (din base 0)) (fun t => statusWord t == 0xC000) = true := by decide
set_option maxRecDepth 4096 in
/-- P3 line 4, after line 3: the registers and the lines. -/
theorem test_freqReq_send : after (exec .freqReq (din { base with lastFreq := 5765, freqResult := .rejected } 5725))
    (fun t => statusWord t == 0x4000 && t.lastFreq == 5725 && t.vtxCs && !t.vtxClk && !t.vtxData) = true := by decide
/-- The corners of the frame table, 5725, 5735, 5760, 5765 and 5875 MHz. -/
theorem test_frames : frameOf 0 = 0x11543E2 ∧ frameOf 2 = 0x1178022 ∧ frameOf 7 = 0x1100D22 ∧ frameOf 8 = 0x115FD22 ∧
    frameOf 30 = 0x116EEE2 := by decide
/-- P3 line 1: the frame of 5765 MHz is the data values in wire order, and the waveform has 127 elements, the second being
slot 0 with bit 1. -/
theorem test_waveform : frameOf 8 = 0b1000101011111110100100010#25 ∧ (frameWave 0x115FD22).length = 127 ∧
    (frameWave 0x115FD22)[1]? = some (.drive .data true) ∧ (frameWave 0x115FD22)[126]? = some (.drive .cs true) :=
  ⟨by decide, rfl, rfl, rfl⟩

/-! ### Witnesses -/

/-- ArithmeticPrimitives: a value below, above and inside a range, and a bit to reverse. -/
theorem witness_arithmetic : ((-1 : Int) < 0 ∧ (0 : Int) ≤ 5) ∧ (5 : Int) < 6 ∧ ((0 : Int) ≤ 5 ∧ (5 : Int) ≤ 5) ∧ 6 < 7 := by decide

theorem witness_DecodeEncodeAgree : (Instr.cfgRead 0xFF).wf = true ∧ decode 0x00000FF2 = .instr (.cfgRead 0xFF) := by decide

theorem witness_OpcodeMapByMatchAndMask : ∃ r ∈ opcodeRows, r.accepts 0x00000FF1 = true := by decide

/-- Each reason at a boundary value, in a well-formed instance. -/
theorem witness_IllegalWordOnlySetsIllegalCmd :
    (hosting base [word 0x6 0]).params.wf = true ∧ 6 ≤ (0x6#32).toNat % 16 ∧ 6 ≤ (0xF#32).toNat % 16 ∧
    (0x1000#32).toNat / 4096 ≠ 0 ∧ (0x80000003#32).toNat / 4096 ≠ 0 ∧
    ((0x10#32).toNat / 16 % 256 ≠ 0 ∧ (0x10#32).toNat % 16 ≠ 1 ∧ (0x10#32).toNat % 16 ≠ 2) ∧
    ((0xFF5#32).toNat / 16 % 256 ≠ 0 ∧ (0xFF5#32).toNat % 16 ≠ 1 ∧ (0xFF5#32).toNat % 16 ≠ 2) := by decide

theorem witness_StepRunsDecodedCommand : ∃ (s : State) (inp : Inputs), s.params.wf = true ∧ s.host = [.command inp] ∧
    decode inp.cmd = .instr .iterate :=
  ⟨hosting base [.command (bundle 3 0 0 0 0)], bundle 3 0 0 0 0, by decide, rfl, by decide⟩

/-- EveryStepAndCommandCompletes, IterateTick, TickNeverExceedsBound, IntegratorStep, FreqRequestDwellTime and
GainScheduleLinearAtUnitFactor ask for a well-formed instance; SilentHostHoldsState also for a silent host. -/
theorem witness_wellFormed : base.params.wf = true ∧ base.host = [] ∧ flying.params.wf = true := by decide

theorem witness_IllFormedInstanceRefused :
    (match step oneCrossing with | .refused _ => false | _ => true) = true ∧
    step { base with params := { Params.reference with w := 31 } } = .refused .illFormedParams :=
  ⟨by decide, rfl⟩

theorem witness_ResetSetsEveryRegister : ∃ (s : State) (now : Word), s.params.wf = true ∧ s.host = [.reset now] ∧
    s.armState = .armedStarted :=
  ⟨hosting flying [.reset 9], 9, by decide, rfl, rfl⟩

theorem witness_NopChangesNothing : (hosting flying [word 0 0]).params.wf = true ∧
    ((0x10#32).toNat % 16 = 0 ∧ 0x10#32 ≠ 0x0#32) ∧ (0x80000000#32).toNat % 16 = 0 := by decide

/-- CfgReadReturnsRegister: the ends of the unmapped ranges are in them, and their neighbours are not. -/
theorem witness_CfgReadReturnsRegister : ∀ a ∈ [0x1A, 0x1B, 0x1F, 0x20, 0x23, 0x24, 0x2F, 0x30, 0x38, 0x39, 0x3F, 0x40, 0x4E, 0x4F,
      0xFF],
    ((0x1B ≤ (BitVec.ofNat 8 a).toNat ∧ (BitVec.ofNat 8 a).toNat ≤ 0x1F) ∨
      (0x24 ≤ (BitVec.ofNat 8 a).toNat ∧ (BitVec.ofNat 8 a).toNat ≤ 0x2F) ∨
      (0x39 ≤ (BitVec.ofNat 8 a).toNat ∧ (BitVec.ofNat 8 a).toNat ≤ 0x3F) ∨ 0x4F ≤ (BitVec.ofNat 8 a).toNat) ↔
      a ∈ [0x1B, 0x1F, 0x24, 0x2F, 0x39, 0x3F, 0x4F, 0xFF] := by decide

/-- CfgWriteStoresOrRefuses: unlocked, locked, and the ends of the two refused ranges. -/
theorem witness_CfgWriteStoresOrRefuses : base.cfgLock = false ∧ p1.cfgLock = true ∧
    ∀ a ∈ [0x1A, 0x1B, 0x1F, 0x20, 0x23, 0x24, 0xFF],
      ((0x1B ≤ (BitVec.ofNat 8 a).toNat ∧ (BitVec.ofNat 8 a).toNat ≤ 0x1F) ∨ 0x24 ≤ (BitVec.ofNat 8 a).toNat) ↔
        a ∈ [0x1B, 0x1F, 0x24, 0xFF] := by decide

/-- CfgWriteReadBack: a write in each clause. -/
theorem witness_CfgWriteReadBack : base.cfgLock = false ∧ (0x1A#8).toNat ≤ 0x1A ∧ 0x48#8 ≠ 0x1A#8 ∧ 0x48#8 ≠ 0x47#8 ∧
    ∀ a ∈ [0x00, 0x1A, 0x20, 0x21, 0x22, 0x23], after (exec (.cfgWrite a) (din base 9)) (fun _ => true) = true := by decide

/-- TickThresholdsAtReference: both sides of both thresholds (T2, T3, T6, T7), and two elapsed times in order. -/
theorem witness_TickThresholdsAtReference : base.params = Params.referenceWith 10 2 ∧
    (tick { at_ base 15 0 0 0 with lastTick := 0 }).dt = 0 ∧ (tick { at_ base 16 0 0 0 with lastTick := 0 }).dt = 1 ∧
    (tick { at_ base 19988 0 0 0 with lastTick := 0 }).dt = 1309 ∧
    (tick { at_ base 19989 0 0 0 with lastTick := 0 }).dt = 1310 := by decide

/-- ArmStateTransitions: each transition, and none (A7: the throttle just not low). -/
theorem witness_ArmStateTransitions : Arms (at_ base 0 (-49153) 0 49153) ∧ Disarms (at_ flying 0 (-49153) 0 (-49153)) ∧
    Starts (at_ p1 0 (-49152) 0 0) ∧
    (¬ Arms (at_ base 0 (-49152) 0 60000) ∧ ¬ Disarms (at_ base 0 (-49152) 0 60000) ∧
      ¬ Starts (at_ base 0 (-49152) 0 60000)) := by
  unfold Arms Disarms Starts Low YawArms YawDisarms; decide

/-- ArmingSelectsModeAndLoadsGains: the roll stick on both sides of both limits, with both direction bits. -/
theorem witness_ArmingSelectsModeAndLoadsGains :
    (base.params.wf = true ∧ Arms (at_ base 0 (-65536) 49153 60000) ∧ Arms (at_ base 0 (-65536) (-49153) 60000) ∧
      Arms (at_ base 0 (-65536) 49152 60000) ∧ Arms (at_ base 0 (-65536) (-49152) 60000) ∧
      base.airframe.getLsbD 2 = false) ∧
    (Arms (at_ { base with airframe := 5 } 0 (-65536) 49153 60000) ∧
      Arms (at_ { base with airframe := 5 } 0 (-65536) (-49153) 60000) ∧ (5#32).getLsbD 2 = true) ∧
    (toWord 49153).toInt > base.params.extreme ∧ (toWord (-49153)).toInt < -base.params.extreme ∧
    (toWord 49152).toInt ≤ base.params.extreme ∧ -base.params.extreme ≤ (toWord (-49152)).toInt := by
  unfold Arms Low YawArms; decide

/-- ArmStateEdges: a step along each edge, the reset among them. -/
theorem witness_ArmStateEdges :
    after (step (hosting base [.command (bundle 3 0 (-65536) 0 60000)])) (fun t => t.armState == .armedNotStarted) = true ∧
    after (step (hosting p1 [.command (bundle 3 0 0 0 0)])) (fun t => t.armState == .armedStarted) = true ∧
    after (step (hosting flying [.command (bundle 3 0 (-65536) 0 (-60000))])) (fun t => t.armState == .disarmed) = true ∧
    after (step (hosting flying [.reset 5])) (fun t => t.armState == .disarmed) = true := by decide

/-- GainsChangeOnlyByArming: a step that is no reset and no arming. -/
theorem witness_GainsChangeOnlyByArming :
    after (step (hosting flying [.command (bundle 3 0 0 60000 60000)])) (fun t => t.armState == .armedStarted) = true := by decide

/-- AuxInputsNeverRead, DataWordIgnoredByOtherCommands, PerCommandOutputs: a step that takes a command and emits
`EV_CAL_ARM`. -/
theorem witness_command_step :
    after (step (hosting base [.command { bundle 3 0 (-65536) 0 60000 with aux := [1, 2] }])) (fun t => t.events == [.calArm]) = true ∧
    (3#32).toNat % 16 ≠ 1 ∧ (3#32).toNat % 16 ≠ 4 := by decide

/-- PerCommandOutputs: a step that emits the two gesture events. -/
theorem witness_gesture_events :
    after (step (hosting almost [.command (bundle 3 700000 (-65536) (-40000) 0)]))
      (fun t => t.events == [.calGesture, .save]) = true := by decide

set_option maxRecDepth 4096 in
/-- PerCommandOutputs: a step that emits a waveform, and an illegal word after it, which leaves both lists empty. -/
theorem witness_waveform_step :
    after (step (hosting base [word 4 5765])) (fun t => t.waveform.length == 127 && t.events.isEmpty) = true ∧
    after (step (hosting { base with waveform := [.waitMin], events := [.save] } [word 0x25 0]))
      (fun t => t.waveform.isEmpty && t.events.isEmpty) = true := by decide

/-- GestureRunsOnlyDisarmedAndLow: enabled, not enabled, arming; the disarming ITERATE is enabled. -/
theorem witness_GestureRunsOnlyDisarmedAndLow : GestureRuns (at_ base 0 (-65536) 0 0) ∧
    GestureRuns (at_ flying 0 (-65536) 0 (-60000)) ∧
    (¬ GestureRuns (at_ base 0 (-49152) 0 0) ∧ ¬ Arms (at_ base 0 (-49152) 0 0)) ∧ Arms (at_ base 0 (-65536) 0 60000) := by
  unfold GestureRuns Arms Disarms Low YawArms YawDisarms; decide

/-- GestureCountsCrossings: the deadband at both thresholds, each late and in time; a first crossing; the same side; the
other side. The deadline is met at 1000000 us and missed at 1000001 us. -/
theorem witness_GestureCountsCrossings :
    (base.params.wf = true ∧ GestureRuns (at_ counting 1600000 (-65536) 32768 0) ∧
      counting.gestCount.toNat < counting.params.gestureN) ∧
    (InDeadband counting.params (at_ counting 1600000 (-65536) 32768 0).inputs ∧
      ¬ GestureLate (at_ counting 1600000 (-65536) 32768 0)) ∧
    (InDeadband counting.params (at_ counting 1600001 (-65536) (-32768) 0).inputs ∧
      GestureLate (at_ counting 1600001 (-65536) (-32768) 0)) ∧
    (OnSide base.params (at_ base 0 (-65536) (-32769) 0).inputs .low ∧ base.gestState = .start ∧
      1 < base.params.gestureN) ∧
    (OnSide counting.params (at_ counting 1600000 (-65536) 32769 0).inputs .high ∧ counting.gestState = .high) ∧
    (OnSide counting.params (at_ counting 1600000 (-65536) (-32769) 0).inputs .low ∧
      counting.gestCount.toNat + 1 < counting.params.gestureN) := by
  unfold GestureRuns Disarms Low YawArms YawDisarms InDeadband OnSide watched GestureLate; decide

/-- GestureFiresAtN: at a first crossing, and at an alternating one, with `GESTURE_N` = 6 and with 8 (log 11). -/
theorem witness_GestureFiresAtN :
    (oneCrossing.params.wf = true ∧ GestureRuns (at_ oneCrossing 0 (-65536) 32769 0) ∧
      OnSide oneCrossing.params (at_ oneCrossing 0 (-65536) 32769 0).inputs .high ∧ oneCrossing.gestState = .start ∧
      oneCrossing.params.gestureN = 1) ∧
    (almost.params.wf = true ∧ GestureRuns (at_ almost 1600000 (-65536) (-32769) 0) ∧
      OnSide almost.params (at_ almost 1600000 (-65536) (-32769) 0).inputs .low ∧ almost.gestState = .high ∧
      ¬ GestureLate (at_ almost 1600000 (-65536) (-32769) 0) ∧ almost.gestCount.toNat + 1 = almost.params.gestureN) ∧
    (almostEight.params.wf = true ∧ GestureRuns (at_ almostEight 1600000 (-65536) (-32769) 0) ∧
      OnSide almostEight.params (at_ almostEight 1600000 (-65536) (-32769) 0).inputs .low ∧ almostEight.gestState = .high ∧
      ¬ GestureLate (at_ almostEight 1600000 (-65536) (-32769) 0) ∧ almostEight.params.gestureN = 8 ∧
      almostEight.gestCount.toNat + 1 = almostEight.params.gestureN) := by
  unfold GestureRuns Disarms Low YawArms YawDisarms OnSide watched GestureLate; decide

/-- StepKeepsInvariant: a state in flight, which is not the reset state, meets the invariant. -/
theorem witness_inv_flying : Inv flying where
  params_wf := by decide
  integ_bounded := by intro a; cases a <;> decide
  dt_bounded := by decide
  motor_bounded := by decide
  motor_idle := by decide
  gest_count := by decide
  gest_start := by decide
  gest_armed := by decide
  armed_locked := by decide
  gains_loaded := by decide
  airframe_reserved := by decide
  mixSigns_reserved := by decide
  lines_idle := by decide
  tx_idle := by decide
  last_freq := by decide
  aux_count := by decide
  freq_result := by decide

theorem witness_StepKeepsInvariant : Inv flying ∧ step flying = .next flying := ⟨witness_inv_flying, rfl⟩

/-- AlternatingCrossingsFireOnce: program P2. -/
theorem witness_AlternatingCrossingsFireOnce :
    Inv p2Start ∧ p2Start.armState = .disarmed ∧ p2Start.gestState = .start ∧
    p2Start.host = (List.range p2Start.params.gestureN).map (fun i => .command (p2 i)) ++ [] ∧
    (∀ i, i < p2Start.params.gestureN → (p2 i).cmd = 0x00000003#32 ∧ Low { p2Start with inputs := p2 i } ∧
      ¬ YawArms { p2Start with inputs := p2 i } ∧ ∃ sd, OnSide p2Start.params (p2 i) sd) ∧
    ∀ i, i + 1 < p2Start.params.gestureN → ∃ sd sd', OnSide p2Start.params (p2 i) sd ∧
      OnSide p2Start.params (p2 (i + 1)) sd' ∧ sd ≠ sd' ∧
      (((p2 (i + 1)).nowUs.toNat : Int) - ((p2 i).nowUs.toNat : Int)) % 4294967296 ≤ p2Start.params.gestureTimeoutUs := by
  have side : ∀ i, i < 6 → OnSide p2Start.params (p2 i) (if i % 2 = 0 then .low else .high) := by
    unfold OnSide watched; decide
  refine ⟨?_, rfl, rfl, rfl, fun i hi => ⟨rfl, ?_, ?_, _, side i hi⟩, fun i hi => ⟨_, _, side i ?_, side (i + 1) hi, ?_, ?_⟩⟩
  · constructor
    case integ_bounded => intro a; cases a <;> decide
    all_goals decide
  · unfold Low; revert i; decide
  · unfold YawArms; revert i; decide
  · exact Nat.lt_of_succ_lt hi
  · replace hi : i < 5 := Nat.lt_of_succ_lt_succ hi
    revert i; decide
  · replace hi : i < 5 := Nat.lt_of_succ_lt_succ hi
    revert i; decide

/-- IntegratorStep, DecayGoesTowardZero: low and not low at the limit, an integrator of each sign. -/
theorem witness_integrator : flying.params.wf = true ∧ Low (at_ flying 0 (-49153) 0 0) ∧ ¬ Low (at_ flying 0 (-49152) 0 0) ∧
    0 ≤ (flying.integ.get .roll).toInt ∧
    (({ flying with integ := ⟨0xFFFFFF9C, 0, 0⟩ } : State).integ.get .roll).toInt < 0 := by
  unfold Low; decide

theorem witness_PidLanesIndependent : Axis.pitch ≠ Axis.roll := by decide

/-- MotorsFollowMixAndGate: the gate open; closed by the arm state; closed by low throttle. -/
theorem witness_MotorsFollowMixAndGate :
    (after (exec .iterate p1Line7) (fun t => t.armState == .armedStarted) = true ∧ ¬ Low p1Line7) ∧
    after (exec .iterate (at_ base 0 0 0 0)) (fun t => t.armState != .armedStarted) = true ∧
    Low (at_ flying 0 (-49153) 0 0) := by
  unfold Low; decide

/-- EqualMotorsAtZeroPid (A15), and its second clause at the lowest `IDLE_OFFSET`. -/
theorem witness_EqualMotorsAtZeroPid :
    after (exec .iterate (at_ { base with armState := .armedStarted, idleOffset := 0xFFFFF000 } 0 (-49152) 0 0))
      (fun t => t.pidOut == ⟨0, 0, 0⟩ && t.armState == .armedStarted) = true ∧
    ¬ Low (at_ { base with armState := .armedStarted, idleOffset := 0xFFFFF000 } 0 (-49152) 0 0) ∧
    (0xFFFFF000#32).toInt = -4096 ∧ base.params = Params.referenceWith 10 2 := by
  unfold Low; decide

theorem witness_IterateFrame : (0x2F#8).toNat < 0x30 ∧ (0x00#8).toNat < 0x30 := by decide

/-- FreqRequestOutcomes, FieldsByTheSourceFormulas, and the other statements with these hypotheses: the two end channels,
the last one sent and a new one, and three frequencies that are no channel. -/
theorem witness_frequencies :
    (∀ f ∈ [5725, 5875], 5725 ≤ (BitVec.ofNat 32 f).toNat ∧ (BitVec.ofNat 32 f).toNat ≤ 5875 ∧
      ((BitVec.ofNat 32 f).toNat - 5725) % 5 = 0) ∧
    (∀ f ∈ [5720, 5726, 5880, 4294967295], ¬ (5725 ≤ (BitVec.ofNat 32 f).toNat ∧ (BitVec.ofNat 32 f).toNat ≤ 5875 ∧
      ((BitVec.ofNat 32 f).toNat - 5725) % 5 = 0)) ∧
    (din { base with lastFreq := 5725 } 5725).inputs.din = ({ base with lastFreq := 5725 } : State).lastFreq ∧
    (din base 5725).inputs.din ≠ base.lastFreq := by decide

/-- FrameBitsInWireOrder: the ends of the four ranges of slots. -/
theorem witness_FrameBitsInWireOrder : (0 < 6 ∧ 5 < 6) ∧ (6 ≤ 6 ∧ 12 < 13) ∧ (13 ≤ 13 ∧ 18 < 19) ∧ (19 ≤ 19 ∧ 24 < 25) := by decide

theorem witness_SameFrequencyTransmitsOnce : ∃ (s : State) (i1 i2 : Inputs), s.params.wf = true ∧
    s.host = [.command i1, .command i2] ∧ i1.cmd = 4 ∧ i2.cmd = 4 ∧ i2.din = i1.din ∧ 5725 ≤ i1.din.toNat ∧
    i1.din.toNat ≤ 5875 ∧ (i1.din.toNat - 5725) % 5 = 0 :=
  ⟨hosting base [word 4 5765, word 4 5765], { Inputs.quiet 2 0#32 with cmd := 4, din := 5765 },
    { Inputs.quiet 2 0#32 with cmd := 4, din := 5765 }, by decide, rfl, rfl, rfl, rfl, by decide, by decide, by decide⟩

/-- FirstRequestAfterResetTransmits: a CFG_WRITE, an ITERATE, an invalid FREQ_REQ and an illegal word in between. -/
theorem witness_FirstRequestAfterResetTransmits : ∃ (s : State) (mid : List Inputs) (inp : Inputs), s.params.wf = true ∧
    s.host = .reset 7 :: (mid.map HostAct.command ++ [.command inp]) ∧ mid.length = 4 ∧
    (∀ c ∈ mid, c.cmd = 0x00000004#32 →
      ¬ (5725 ≤ c.din.toNat ∧ c.din.toNat ≤ 5875 ∧ (c.din.toNat - 5725) % 5 = 0)) ∧
    inp.cmd = 4 ∧ 5725 ≤ inp.din.toNat ∧ inp.din.toNat ≤ 5875 ∧ (inp.din.toNat - 5725) % 5 = 0 :=
  ⟨hosting base [.reset 7, word 0x221 9, word 3 0, word 4 5880, word 0x25 5725, word 4 5875],
    [{ Inputs.quiet 2 0#32 with cmd := 0x221, din := 9 }, { Inputs.quiet 2 0#32 with cmd := 3, din := 0 },
      { Inputs.quiet 2 0#32 with cmd := 4, din := 5880 }, { Inputs.quiet 2 0#32 with cmd := 0x25, din := 5725 }],
    { Inputs.quiet 2 0#32 with cmd := 4, din := 5875 }, by decide, rfl, rfl, by decide, rfl, by decide, by decide,
    by decide⟩

/-- OnlyIterateMovesTheControlLoop, ConfigWrittenOnlyByCfgWrite: a CFG_WRITE that changes a register. -/
theorem witness_ConfigWrittenOnlyByCfgWrite :
    after (step (hosting base [word 0x221 9])) (fun t => t.idleOffset != base.idleOffset) = true ∧ 0x221#32 ≠ 3#32 := by decide

/-- StickyBitsStay: both bits set, and a command that is not CLR_STATUS. -/
theorem witness_StickyBitsStay :
    after (step (hosting { base with cfgErr := true, illegalCmd := true } [word 0x202 0])) (fun t => t.dout == 1) = true ∧
    0x202#32 ≠ 5#32 := by decide

/-- ConfigFrozenOnceLocked: a locked state whose host tries to write and does not reset. -/
theorem witness_ConfigFrozenOnceLocked : (hosting p1 [word 0x221 9]).params.wf = true ∧
    (hosting p1 [word 0x221 9]).cfgLock = true ∧ ∀ now, HostAct.reset now ∉ (hosting p1 [word 0x221 9]).host := by
  refine ⟨by decide, by decide, fun now h => ?_⟩
  cases h with
  | tail _ h => cases h

end Sys2Proof.Tests
end

section
/-! PROOFS. 00_scope.md: the arithmetic primitives (R10), and the instances a step refuses (R6). -/

namespace Sys2Proof.Machine

/-! ### The arithmetic primitives (R10) -/

/-- `wrap32` moves a number by a multiple of 2^32. -/
theorem wrap32_eq_add_mul (v : Int) : ∃ k : Int, wrap32 v = v + k * 4294967296 :=
  ⟨-((v + 2147483648) / 4294967296), by unfold wrap32; omega⟩

theorem wrapu32_range (v : Int) : 0 ≤ wrapu32 v ∧ wrapu32 v < 4294967296 := by
  unfold wrapu32; omega

/-- `wrapu32` moves a number by a multiple of 2^32. -/
theorem wrapu32_eq_add_mul (v : Int) : ∃ k : Int, wrapu32 v = v + k * 4294967296 :=
  ⟨-(v / 4294967296), by unfold wrapu32; omega⟩

/-- `asr v k` is the floor of `v / 2^k`: the two bounds that determine it. -/
theorem asr_floor (v : Int) (k : Nat) : asr v k * 2 ^ k ≤ v ∧ v < (asr v k + 1) * 2 ^ k := by
  unfold asr
  push_cast
  exact ⟨Int.ediv_mul_le v (by positivity), Int.lt_ediv_add_one_mul_self v (by positivity)⟩

theorem clamp_of_lt {v lo : Int} (hi : Int) (h : v < lo) : clamp v lo hi = lo := if_pos h

theorem clamp_of_gt {v lo hi : Int} (h : lo ≤ hi) (h' : hi < v) : clamp v lo hi = hi := by
  rw [clamp, if_neg (by omega), if_pos h']

/-! ### The instances a step refuses (R6) -/

/-- A frame table is the closed-form one exactly when it has one entry for each of the 31 channels, the closed-form
frame of that channel. -/
theorem eq_closedFormTable_iff (l : List Frame) :
    l = closedFormTable ↔ l.length = 31 ∧ ∀ n, n < 31 → l.getD n 0#25 = frameOf n := by
  constructor
  · rintro rfl
    exact ⟨by simp [closedFormTable], fun n hn => by simp [closedFormTable, hn]⟩
  · rintro ⟨hl, hf⟩
    refine List.ext_getElem (by simp [hl, closedFormTable]) fun n hn _ => ?_
    rw [← List.getD_eq_getElem l 0#25 hn, hf n (hl ▸ hn)]
    simp [closedFormTable]

/-- `Params.wf` decides the conditions of R6, one by one. -/
theorem Params.wf_iff (p : Params) : p.wf = true ↔
    p.w = 32 ∧ 1 ≤ p.shift ∧ p.shift ≤ 30 ∧ 0 ≤ p.limit ∧ p.limit ≤ 2 ^ 31 - 1 ∧
    0 ≤ p.minMotorOutput ∧ p.minMotorOutput ≤ 2 ^ p.shift ∧ 0 ≤ p.decayAlpha ∧ p.decayAlpha ≤ 2 ^ p.shift ∧
    0 ≤ p.gestureT ∧ 0 ≤ p.extreme ∧ 1 ≤ p.gestureN ∧ p.gestureN ≤ 8 ∧ p.dtMax = 2 ^ p.shift / 50 ∧
    p.frameTable.length = 31 ∧ ∀ n, n < 31 → p.frameTable.getD n 0#25 = frameOf n := by
  have hone : one p = 2 ^ p.shift := by simp [one]
  simp only [Params.wf, Bool.and_eq_true, decide_eq_true_eq, beq_iff_eq, hone, eq_closedFormTable_iff, and_assoc]
  norm_num

/-- Every step of a well-formed instance answers a next state (60_exceptions.md R130). -/
theorem step_total {s : State} (h : s.params.wf = true) : ∃ t, step s = .next t := by
  unfold step
  rw [if_pos h]
  split
  · exact ⟨_, rfl⟩
  · exact ⟨_, rfl⟩
  · split
    · exact exec_total _ _
    · exact ⟨_, rfl⟩

/-- A step answers `illFormedParams` exactly when the instance is not well-formed. -/
theorem step_eq_illFormedParams_iff (s : State) : step s = .refused .illFormedParams ↔ ¬ s.params.wf = true := by
  constructor
  · intro h hwf
    obtain ⟨t, ht⟩ := step_total hwf
    rw [ht] at h
    cases h
  · exact fun h => if_neg h

/-- Settles O8: a well-formed instance always steps on, and well-formedness is the conjunction of R6's conditions. -/
theorem illFormedInstanceRefused : Obligations.IllFormedInstanceRefused := fun s => by
  rw [step_eq_illFormedParams_iff, Params.wf_iff]

/-- Settles O1, one lemma for each primitive; `fpmul` is R10's formula by definition. -/
theorem arithmeticPrimitives : Obligations.ArithmeticPrimitives :=
  ⟨fun v => ⟨(wrap32_range v).1, Int.lt_of_le_sub_one (wrap32_range v).2, wrap32_eq_add_mul v⟩,
    fun v => ⟨(wrapu32_range v).1, (wrapu32_range v).2, wrapu32_eq_add_mul v⟩,
    asr_floor,
    fun _ _ _ => rfl,
    fun _ _ hi h => ⟨clamp_of_lt hi, clamp_of_gt h, clamp_of_mem⟩,
    fun n v => ⟨rev_lt n v, rev_testBit n v⟩⟩

end Sys2Proof.Machine
end

section
/-! PROOFS. 10_state.md: the status word (R35), what a step samples and reads (R39), which command writes which register
(R19, R20, R41), and the per-command outputs (R40). -/

namespace Sys2Proof

/-! ### The word of a decoded command -/

theorem withoutAddr_eq_instr_iff {w : Word} {i j : Instr} :
    withoutAddr w i = .instr j ↔ addrField w = 0#8 ∧ i = j := by
  unfold withoutAddr
  split <;> simp [*]

/-- A legal word is the encoding of what it decodes to (30_encoding.md R59). -/
theorem encode_of_decode {w : Word} {i : Instr} (h : decode w = .instr i) : encode i = w := by
  unfold decode at h
  split at h
  · cases h
  split at h
  · cases h
  rename_i hop hrsvd
  rw [not_le] at hop
  rw [← commandWord_of_fields (not_not.1 hrsvd)]
  generalize opField w = op at *
  split_ifs at h <;> simp only [withoutAddr_eq_instr_iff, Decoded.instr.injEq] at h
  -- the two commands with an address, then those without, NOP last
  case pos | pos => subst h op; rfl
  case pos | pos | pos => obtain ⟨ha, rfl⟩ := h; subst op; rw [ha]; rfl
  case neg =>
    obtain ⟨ha, rfl⟩ := h
    have : op = 0#4 := by bv_omega
    rw [ha, this]; rfl

end Sys2Proof

namespace Sys2Proof.Machine

open Sys2Proof.Safety

/-! ### The status word (R35) -/

theorem ArmState.code_injective : Function.Injective ArmState.code := fun a b => by
  cases a <;> cases b <;> decide

theorem modeCode_injective : Function.Injective modeCode := fun a b => by
  cases a <;> cases b <;> decide

theorem GestState.code_injective : Function.Injective GestState.code := fun a b => by
  cases a <;> cases b <;> decide

theorem FreqResult.code_injective : Function.Injective FreqResult.code := fun a b => by
  cases a <;> cases b <;> decide

/-- The fields of the status word that are wider than a bit. -/
theorem statusWord_extract (s : State) :
    (statusWord s).extractLsb' 0 2 = s.armState.code ∧ (statusWord s).extractLsb' 2 2 = modeCode s.flightMode ∧
    (statusWord s).extractLsb' 4 2 = s.gestState.code ∧ (statusWord s).extractLsb' 6 3 = s.gestCount ∧
    (statusWord s).extractLsb' 14 2 = s.freqResult.code ∧ (statusWord s).extractLsb' 16 16 = 0#16 := by
  refine ⟨?_, ?_, ?_, ?_, ?_, ?_⟩ <;> refine BitVec.eq_of_getLsbD_eq fun i hi => ?_ <;>
    rw [BitVec.getLsbD_extractLsb', statusWord_getLsbD] <;> interval_cases i <;> simp

/-- Settles O13: the fields by `statusWord_extract`, their codes by injectivity, the flags by `statusWord_getLsbD`. -/
theorem statusWordLayout : Obligations.StatusWordLayout := fun s => by
  obtain ⟨harm, hmode, hgest, hcount, hfreq, hrsvd⟩ := statusWord_extract s
  rw [harm, hmode, hgest, hcount, hfreq, hrsvd]
  exact ⟨ArmState.code_injective.eq_iff (b := .disarmed), ArmState.code_injective.eq_iff (b := .armedNotStarted),
    ArmState.code_injective.eq_iff (b := .armedStarted),
    modeCode_injective.eq_iff (b := .level), modeCode_injective.eq_iff (b := .semiAcro),
    modeCode_injective.eq_iff (b := .fullAcro),
    GestState.code_injective.eq_iff (b := .start), GestState.code_injective.eq_iff (b := .low),
    GestState.code_injective.eq_iff (b := .high), rfl,
    statusWord_getLsbD s 9, statusWord_getLsbD s 10, statusWord_getLsbD s 11, statusWord_getLsbD s 12,
    statusWord_getLsbD s 13,
    FreqResult.code_injective.eq_iff (b := .noneYet), FreqResult.code_injective.eq_iff (b := .sent),
    FreqResult.code_injective.eq_iff (b := .unchanged), FreqResult.code_injective.eq_iff (b := .rejected), rfl⟩

/-! ### A step on a command -/

/-- A step on a command runs what its word decodes to, or refuses the word (40_commands.md R69). -/
theorem step_command_cases {s t : State} {inp : Inputs} {rest : List HostAct} (hh : s.host = .command inp :: rest)
    (h : step s = .next t) :
    (∃ i, decode inp.cmd = .instr i ∧ exec i (beginCommand inp rest s) = .next t) ∨
    (∃ r, decode inp.cmd = .illegal r ∧ t = setIllegalCmd (beginCommand inp rest s)) := by
  obtain ⟨-, ⟨hh', -⟩ | ⟨_, _, hh', -⟩ | ⟨_, _, i, hh', hd, he⟩ | ⟨_, _, r, hh', hd, he⟩⟩ := step_cases h <;>
    rw [hh] at hh' <;> cases hh'
  · exact .inl ⟨i, hd, he⟩
  · exact .inr ⟨r, hd, he⟩

/-- No command writes a port of the sampled bundle (R39). -/
theorem exec_inputs {i : Instr} {s t : State} (h : exec i s = .next t) : t.inputs = s.inputs := by
  by_cases hi : i = .iterate
  · subst hi
    cases Host.Outcome.next.inj h
    simp
  · simp only [exec_control_frame hi h]

theorem step_command_inputs {s t : State} {inp : Inputs} {rest : List HostAct} (hh : s.host = .command inp :: rest)
    (h : step s = .next t) : t.inputs = sampleBundle s.params inp := by
  rcases step_command_cases hh h with ⟨i, -, he⟩ | ⟨r, -, rfl⟩
  · simp [exec_inputs he]
  · simp

theorem step_of_instr {s : State} {inp : Inputs} {rest : List HostAct} {i : Instr} (hwf : s.params.wf = true)
    (hh : s.host = .command inp :: rest) (hd : decode inp.cmd = .instr i) : step s = exec i (beginCommand inp rest s) := by
  simp only [step, hwf, hh, hd, if_true]

theorem step_of_illegal {s : State} {inp : Inputs} {rest : List HostAct} {r : IllegalReason} (hwf : s.params.wf = true)
    (hh : s.host = .command inp :: rest) (hd : decode inp.cmd = .illegal r) :
    step s = .next (setIllegalCmd (beginCommand inp rest s)) := by
  simp only [step, hwf, hh, hd, if_true, refuseIllegalWord]

/-! ### Which command writes which register (R41) -/

/-- Settles O47: such a command is one of `exec_control_frame`, or an illegal word. -/
theorem onlyIterateMovesTheControlLoop : Obligations.OnlyIterateMovesTheControlLoop := fun s t inp rest hh h hw => by
  rcases step_command_cases hh h with ⟨i, hd, he⟩ | ⟨r, -, rfl⟩
  · have hi : i ≠ .iterate := fun e => hw (encode_of_decode (e ▸ hd)).symm
    simp [exec_control_frame hi he]
  · simp

/-- Only FREQ_REQ writes the registers of the transmitter and the waveform (46_freq_encoder.md R128). -/
theorem exec_transmitter_frame {i : Instr} {s t : State} (hi : i ≠ .freqReq) (h : exec i s = .next t) :
    t.lastFreq = s.lastFreq ∧ t.vtxCs = s.vtxCs ∧ t.vtxClk = s.vtxClk ∧ t.vtxData = s.vtxData ∧ t.tx = s.tx ∧
    t.freqResult = s.freqResult ∧ t.waveform = s.waveform := by
  cases i with
  | nop => cases h; simp
  | cfgWrite addr =>
    cases Host.Outcome.next.inj h
    rcases regWrite_cases addr s.inputs.din s with ⟨r, -, -, -, e⟩ | ⟨-, e⟩ <;> rw [e]
    · cases r <;> simp [cfgStore]
    · simp
  | cfgRead addr =>
    rcases execCfgRead_cases addr s with ⟨r, -, e⟩ | ⟨-, e⟩ <;> cases e.symm.trans h <;> simp
  | iterate => cases h; simp
  | freqReq => exact absurd rfl hi
  | clrStatus => cases h; simp

/-- Only CFG_WRITE, and only while unlocked, writes a configuration register (20_memory.md R46). -/
theorem exec_config_frame {i : Instr} {s t : State} (hi : s.cfgLock = true ∨ ∀ addr, i ≠ .cfgWrite addr)
    (h : exec i s = .next t) :
    t.preset = s.preset ∧ t.airframe = s.airframe ∧ t.mixSigns = s.mixSigns ∧ t.idleOffset = s.idleOffset ∧
    t.gsf = s.gsf := by
  cases i with
  | nop => cases h; simp
  | cfgWrite addr =>
    cases Host.Outcome.next.inj h
    rcases regWrite_cases addr s.inputs.din s with ⟨r, -, -, hl, -⟩ | ⟨-, e⟩
    · simp [hl] at hi
    · simp [e]
  | cfgRead addr =>
    rcases execCfgRead_cases addr s with ⟨r, -, e⟩ | ⟨-, e⟩ <;> cases e.symm.trans h <;> simp
  | iterate => cases h; simp
  | freqReq =>
    rcases execFreqReq_shape s with ⟨-, e⟩ | ⟨-, -, e⟩ | ⟨-, -, f, -, e⟩ <;> cases e.symm.trans h <;> simp
  | clrStatus => cases h; simp

/-- Settles O48 by `exec_config_frame`: a command outside its hypothesis is a CFG_WRITE while unlocked. -/
theorem configWrittenOnlyByCfgWrite : Obligations.ConfigWrittenOnlyByCfgWrite := fun s t h hchanged => by
  obtain ⟨-, ⟨-, rfl⟩ | ⟨now, rest, hh, -⟩ | ⟨inp, rest, i, hh, hd, he⟩ | ⟨inp, rest, r, -, -, rfl⟩⟩ := step_cases h
  · simp at hchanged
  · exact .inl ⟨now, rest, hh⟩
  · by_cases hi : s.cfgLock = true ∨ ∀ addr, i ≠ .cfgWrite addr
    · exact absurd (exec_config_frame (s := beginCommand inp rest s) hi he) hchanged
    · push Not at hi
      obtain ⟨hl, addr, rfl⟩ := hi
      exact .inr ⟨by simpa using hl, inp, rest, addr, hh, hd⟩
  · simp at hchanged

/-! ### Flight mode and active gains (R19, R20) -/

/-- An ITERATE that meets the arm condition makes the arm transition (42_arming.md R85). -/
theorem armed_of_arms {s : State} (h : Arms s) : armed s = armTransition (tick (lockConfig s)) := by
  obtain ⟨hdis, hlow, -⟩ := id h
  rcases armed_cases s with ⟨-, e⟩ | ⟨h', -⟩ | ⟨h', -⟩ | ⟨h', -⟩
  · exact e
  · exact absurd hdis h'.1
  · exact absurd hlow h'.2
  · exact absurd h h'

/-- The active gains and the flight mode after an ITERATE that does not arm (42_arming.md R86 to R90). -/
theorem iterate_gains_of_not_arms {s : State} (h : ¬ Arms s) :
    (iterate s).flightMode = s.flightMode ∧ (iterate s).act = s.act := by
  obtain ⟨-, hmode, hact, -⟩ := iterate_gate_fields s
  rw [hmode, hact]
  rcases armed_cases s with ⟨h', -⟩ | ⟨-, e⟩ | ⟨-, e⟩ | ⟨-, -, -, e⟩
  · exact absurd h' h
  all_goals rw [e]; simp

theorem iterate_armState_of_arms {s : State} (h : Arms s) : (iterate s).armState = .armedNotStarted := by
  rw [(iterate_gate_fields s).1, armed_of_arms h]
  simp

/-- Settles O23: an ITERATE that arms goes along the arm edge; no other command writes mode or gains. -/
theorem gainsChangeOnlyByArming : Obligations.GainsChangeOnlyByArming := fun s t h hreset hedge => by
  obtain ⟨-, ⟨-, rfl⟩ | ⟨now, rest, hh, -⟩ | ⟨inp, rest, i, -, -, he⟩ | ⟨inp, rest, r, -, -, rfl⟩⟩ := step_cases h
  · exact ⟨rfl, rfl⟩
  · exact absurd hh (hreset now rest)
  · by_cases hi : i = .iterate
    · subst hi
      cases Host.Outcome.next.inj he
      exact iterate_gains_of_not_arms fun ha => hedge ⟨ha.1, iterate_armState_of_arms ha⟩
    · obtain ⟨-, -, hmode, hact, -⟩ := exec_control_frame hi he
      exact ⟨hmode, hact⟩
  · simp

/-! ### The per-command outputs (R40) -/

/-- The event list of an ITERATE: nothing more, the arm event, or the two gesture events (60_exceptions.md R136). -/
theorem iterate_events_cases (s : State) : (iterate s).events = s.events ∨
    (iterate s).events = s.events ++ [.calArm] ∨ (iterate s).events = s.events ++ [.calGesture, .save] := by
  by_cases hg : GestureRuns s
  · obtain ⟨hquiet, hfire⟩ := iterate_gesture hg
    by_cases hc : (gestSettled s).count = s.params.gestureN
    · obtain ⟨-, -, -, hevents⟩ := hfire hc
      exact .inr (.inr hevents)
    · obtain ⟨-, -, -, hevents⟩ := hquiet hc
      exact .inl hevents
  · obtain ⟨-, -, -, -, -, -, hev⟩ := iterate_gate_fields s
    rw [hev, gestureIfEnabled_of_not_runs hg]
    by_cases ha : Arms s
    · simp [armed_of_arms ha]
    · obtain ⟨-, -, -, hevents, -⟩ := armed_gesture_fields ha
      exact .inl hevents

/-- The waveform of a FREQ_REQ: nothing more, or the frame of one channel (46_freq_encoder.md R128). -/
theorem execFreqReq_waveform_cases {s t : State} (hwf : s.params.wf = true) (h : exec .freqReq s = .next t) :
    t.waveform = s.waveform ∨ ∃ n, n < 31 ∧ t.waveform = s.waveform ++ frameWave (frameOf n) := by
  rcases execFreqReq_cases hwf with ⟨-, e⟩ | ⟨-, -, e⟩ | ⟨hv, -, e⟩ <;> cases e.symm.trans h
  · exact .inl rfl
  · exact .inl rfl
  · exact .inr ⟨_, channelIndex_lt ((validFreq_iff _).1 hv).2.1, rfl⟩

/-- Settles O46: ITERATE alone emits events, FREQ_REQ alone a waveform, and a command starts with both lists empty. -/
theorem perCommandOutputs : Obligations.PerCommandOutputs := fun s t inp rest hh h => by
  have hwf := (step_cases h).1
  rcases step_command_cases hh h with ⟨i, hd, he⟩ | ⟨r, -, rfl⟩
  · have hcmd := (encode_of_decode hd).symm
    constructor
    · by_cases hi : i = .iterate
      · subst hi
        cases Host.Outcome.next.inj he
        rcases iterate_events_cases (beginCommand inp rest s) with e | e | e
        · exact .inl e
        · exact .inr ⟨hcmd, .inl e⟩
        · exact .inr ⟨hcmd, .inr e⟩
      · simp [exec_control_frame hi he]
    · by_cases hi : i = .freqReq
      · subst hi
        exact (execFreqReq_waveform_cases (by simpa using hwf) he).imp_right (⟨hcmd, ·⟩)
      · simp [exec_transmitter_frame hi he]
  · simp

/-! ### The input ports a command does not read (R39)

A unit commutes with `setInputs` when the new bundle agrees with the sampled one on the ports the unit reads. -/

/-- The same state with other values on the input ports. -/
def setInputs (inp : Inputs) (s : State) : State := { s with inputs := inp }

/-- Two bundles that agree on the ports the control loop computes with: all but `CMD`, `DIN`, `AUX` and `FAILSAFE_IN`. -/
structure SameControlPorts (a b : Inputs) : Prop where
  nowUs : a.nowUs = b.nowUs
  thr : a.thr = b.thr
  roll : a.roll = b.roll
  pitch : a.pitch = b.pitch
  yaw : a.yaw = b.yaw
  err : a.err = b.err
  gyro : a.gyro = b.gyro

@[simp] theorem setInputs_fields (inp : Inputs) (s : State) :
    (setInputs inp s).params = s.params ∧ (setInputs inp s).armState = s.armState ∧
    (setInputs inp s).airframe = s.airframe ∧ (setInputs inp s).idleOffset = s.idleOffset ∧
    (setInputs inp s).gsf = s.gsf ∧ (setInputs inp s).lastFreq = s.lastFreq ∧ (setInputs inp s).inputs = inp :=
  ⟨rfl, rfl, rfl, rfl, rfl, rfl, rfl⟩

theorem tick_setInputs {inp : Inputs} {s : State} (h : SameControlPorts inp s.inputs) :
    tick (setInputs inp s) = setInputs inp (tick s) := by
  simp only [tick, setInputs, h.nowUs]

theorem armStep_setInputs {inp : Inputs} {s : State} (h : SameControlPorts inp s.inputs) (low : Bool) :
    armStep low (setInputs inp s) = setInputs inp (armStep low s) := by
  have harm : armTransition (setInputs inp s) = setInputs inp (armTransition s) := by
    simp only [armTransition, gainLoad, emit, setInputs, h.roll]
  unfold armStep
  simp only [setInputs_fields, h.yaw, harm]
  cases s.armState <;> simp only [apply_ite (setInputs inp)] <;> rfl

theorem gestureStep_setInputs {inp : Inputs} {s : State} (h : SameControlPorts inp s.inputs) :
    gestureStep (setInputs inp s) = setInputs inp (gestureStep s) := by
  have hstick : stick inp s.params.gestureAxis = stick s.inputs s.params.gestureAxis := by
    cases s.params.gestureAxis <;> simp only [stick, h.roll, h.pitch, h.yaw]
  simp only [gestureStep, gestFire, setInputs_fields, h.nowUs, hstick, apply_ite (setInputs inp)]
  rfl

theorem gestureIfEnabled_setInputs {inp : Inputs} {s : State} (h : SameControlPorts inp s.inputs) (low : Bool) :
    gestureIfEnabled low (setInputs inp s) = setInputs inp (gestureIfEnabled low s) := by
  simp only [gestureIfEnabled, gestureStep_setInputs h, setInputs_fields, apply_ite (setInputs inp)]

theorem pidAxis_setInputs {inp : Inputs} {s : State} (h : SameControlPorts inp s.inputs) (low : Bool) (gsm : Int) (a : Axis) :
    pidAxis low gsm a (setInputs inp s) = setInputs inp (pidAxis low gsm a s) := by
  simp only [pidAxis, setInputs, h.err, h.gyro]

theorem pidAll_setInputs {inp : Inputs} {s : State} (h : SameControlPorts inp s.inputs) (low : Bool) (gsm : Int) :
    pidAll low gsm (setInputs inp s) = setInputs inp (pidAll low gsm s) := by
  simp only [pidAll]
  rw [pidAxis_setInputs h, pidAxis_setInputs (by simpa using h), pidAxis_setInputs (by simpa using h)]

theorem mixAndMirror_setInputs (inp : Inputs) (thrOut : Int) (low : Bool) (s : State) :
    mirrorFlags low (mixAndGate thrOut low (setInputs inp s)) =
      setInputs inp { mirrorFlags low (mixAndGate thrOut low s) with failsafe := inp.failsafeIn } := rfl

/-- Of the ports that `SameControlPorts` leaves free, `FAILSAFE_IN` alone shows after an ITERATE (42_arming.md R93). -/
theorem iterate_setInputs {inp : Inputs} {s : State} (h : SameControlPorts inp s.inputs) :
    iterate (setInputs inp s) = setInputs inp { iterate s with failsafe := inp.failsafeIn } := by
  have hlock : lockConfig (setInputs inp s) = setInputs inp (lockConfig s) := rfl
  simp only [iterate]
  rw [hlock, tick_setInputs (by simpa using h), armStep_setInputs (by simpa using h),
    gestureIfEnabled_setInputs (by simpa using h), pidAll_setInputs (by simpa using h), mixAndMirror_setInputs]
  simp only [setInputs_fields, tick_fields, lockConfig_fields, armStep_frame, gestureIfEnabled_frame, h.thr]

theorem setFailsafe_self {s : State} {b : Bool} (h : s.failsafe = b) : ({ s with failsafe := b } : State) = s := by
  rw [← h]

/-- An ITERATE that finds the same `FAILSAFE_IN` too leaves the same next state. -/
theorem iterate_setInputs_of_failsafeIn {inp : Inputs} {s : State} (h : SameControlPorts inp s.inputs)
    (hf : inp.failsafeIn = s.inputs.failsafeIn) : iterate (setInputs inp s) = setInputs inp (iterate s) := by
  have hfs : (iterate s).failsafe = inp.failsafeIn := by simp [hf]
  exact (iterate_setInputs h).trans (congrArg (setInputs inp) (setFailsafe_self hfs))

/-- Two bundles that agree on the ports the command `i` reads (R39, 30_encoding.md R63). -/
def SamePortsFor (i : Instr) (a b : Inputs) : Prop :=
  match i with
  | .cfgWrite _ | .freqReq => a.din = b.din
  | .iterate => SameControlPorts a b ∧ a.failsafeIn = b.failsafeIn
  | .nop | .cfgRead _ | .clrStatus => True

/-- Sampling touches no port that a command reads. -/
theorem SamePortsFor.sampleBundle {i : Instr} {a b : Inputs} (h : SamePortsFor i a b) (p : Params) :
    SamePortsFor i (sampleBundle p a) (sampleBundle p b) := by
  cases i with
  | iterate =>
    obtain ⟨⟨hnow, hthr, hroll, hpitch, hyaw, herr, hgyro⟩, hf⟩ := h
    exact ⟨⟨hnow, hthr, hroll, hpitch, hyaw, herr, hgyro⟩, hf⟩
  | _ => exact h

theorem regWrite_setInputs (inp : Inputs) (addr : RegAddr) (v : Word) (s : State) :
    regWrite addr v (setInputs inp s) = setInputs inp (regWrite addr v s) := by
  unfold regWrite
  cases regAt addr with
  | none => rfl
  | some r =>
    have hstore : cfgStore v (setInputs inp s) r = setInputs inp (cfgStore v s r) := by cases r <;> rfl
    simp only [hstore, apply_ite (setInputs inp)]
    rfl

/-- A command does the same on any two bundles that agree on the ports it reads. -/
theorem exec_setInputs {i : Instr} {s t : State} {inp : Inputs} (hp : SamePortsFor i inp s.inputs)
    (h : exec i s = .next t) : exec i (setInputs inp s) = .next (setInputs inp t) := by
  cases i with
  | nop => cases h; rfl
  | cfgWrite addr =>
    have hdin : inp.din = s.inputs.din := hp
    cases Host.Outcome.next.inj h
    rw [← regWrite_setInputs, ← hdin]
    rfl
  | cfgRead addr =>
    have hv : ∀ r, regValue (setInputs inp s) r = regValue s r := fun r => by cases r <;> rfl
    rcases execCfgRead_cases addr s with ⟨r, hr, e⟩ | ⟨hr, e⟩ <;> cases e.symm.trans h <;>
      simp only [exec, execCfgRead, regRead, hr, Option.map, hv] <;> rfl
  | iterate =>
    cases Host.Outcome.next.inj h
    exact congrArg Host.Outcome.next (iterate_setInputs_of_failsafeIn hp.1 hp.2)
  | freqReq =>
    have hdin : inp.din = s.inputs.din := hp
    simp only [exec, execFreqReq, requestedFreq, transmit_eq, setInputs_fields, hdin] at h ⊢
    split_ifs at h ⊢ <;> cases h <;> rfl
  | clrStatus => cases h; rfl

/-- A step on another bundle with the same word, which agrees on the ports that word reads, answers the same next state but
for the sampled bundle. -/
theorem step_of_samePorts {s t : State} {inp inp' : Inputs} {rest : List HostAct} (hh : s.host = .command inp :: rest)
    (hcmd : inp'.cmd = inp.cmd) (hp : ∀ i, decode inp.cmd = .instr i → SamePortsFor i inp' inp) (h : step s = .next t) :
    step { s with host := .command inp' :: rest } = .next { t with inputs := sampleBundle s.params inp' } := by
  have hwf := (step_cases h).1
  rcases step_command_cases hh h with ⟨i, hd, he⟩ | ⟨r, hd, rfl⟩
  · exact (step_of_instr (s := { s with host := .command inp' :: rest }) hwf rfl (hcmd ▸ hd)).trans
      (exec_setInputs ((hp i hd).sampleBundle s.params) he)
  · exact step_of_illegal (s := { s with host := .command inp' :: rest }) hwf rfl (hcmd ▸ hd)

/-- No command reads an auxiliary channel. -/
theorem samePortsFor_aux (i : Instr) (inp : Inputs) (aux : List Word) : SamePortsFor i { inp with aux := aux } inp := by
  cases i with
  | iterate => exact ⟨⟨rfl, rfl, rfl, rfl, rfl, rfl, rfl⟩, rfl⟩
  | cfgWrite _ | freqReq => rfl
  | nop | cfgRead _ | clrStatus => trivial

/-- A channel that the host drives is sampled as driven. -/
theorem getElem?_sampleAux {nAux i : Nat} {driven : List Word} (h : i < nAux) (h' : i < driven.length) :
    (sampleAux nAux driven)[i]? = driven[i]? := by
  simp [sampleAux, h, h']

/-- Settles O25: the auxiliary channels are among the ports no command reads. -/
theorem auxInputsNeverRead : Obligations.AuxInputsNeverRead := fun s t inp rest aux hh h => by
  rw [step_command_inputs hh h]
  exact ⟨length_sampleAux .., fun _ => getElem?_sampleAux,
    step_of_samePorts hh rfl (fun i _ => samePortsFor_aux i inp aux) h⟩

end Sys2Proof.Machine
end

section
/-! PROOFS. 20_memory.md: a configuration write is read back (R43, R47), and the lock freezes the configuration (R46). -/

namespace Sys2Proof.Machine

/-! ### Read after write (R43, R47) -/

/-- Keeping the low `k` bits of a word is masking it. -/
theorem ofNat_mod_two_pow_eq_and (v : Word) {k : Nat} (hk : k ≤ 32) :
    BitVec.ofNat 32 (v.toNat % 2 ^ k) = v &&& BitVec.ofNat 32 (2 ^ k - 1) := by
  have hpow : 2 ^ k ≤ 2 ^ 32 := Nat.pow_le_pow_right (by norm_num) hk
  have hpos : 0 < 2 ^ k := by positivity
  have hmask : (2 ^ k - 1) % 2 ^ 32 = 2 ^ k - 1 := Nat.mod_eq_of_lt (by omega)
  apply BitVec.eq_of_toNat_eq
  rw [BitVec.toNat_and, BitVec.toNat_ofNat, BitVec.toNat_ofNat, hmask, Nat.and_two_pow_sub_one_eq_mod]
  exact Nat.mod_eq_of_lt ((Nat.mod_le ..).trans_lt v.isLt)

theorem airframeStored_eq_and (v : Word) : airframeStored v = v &&& 0x7#32 :=
  (airframeStored_eq v).trans (ofNat_mod_two_pow_eq_and v (k := 3) (by decide))

theorem mixSignsStored_eq_and (v : Word) : mixSignsStored v = v &&& 0xFFF#32 :=
  (mixSignsStored_eq v).trans (ofNat_mod_two_pow_eq_and v (k := 12) (by decide))

/-- A store leaves every other register's value; `STATUS` shows no configuration register. -/
theorem regValue_cfgStore_of_ne (v : Word) (s : State) {r r' : Reg} (h : r' ≠ r) :
    regValue (cfgStore v s r) r' = regValue s r' := by
  cases r with
  | preset m t a =>
    cases r' with
    | preset m' t' a' =>
      simp only [regValue, cfgStore, PresetBank.get_set]
      split_ifs with hm
      · subst hm
        rw [Gains.get_set, if_neg fun hta => h (by rw [hta.1, hta.2])]
      · rfl
    | _ => rfl
  | airframe | mixSigns | idleOffset | gsf =>
    cases r' <;> try rfl
    -- left: the stored register itself
    exact absurd rfl h
  | _ => rfl

/-- `CFG_ERR` shows in no register but `STATUS`. -/
theorem regValue_setCfgErr_of_ne (s : State) {r : Reg} (h : r ≠ .status) : regValue (setCfgErr s) r = regValue s r := by
  cases r with
  | status => exact absurd rfl h
  | _ => rfl

/-- A write of one address, accepted or refused, shows at no other address but that of `STATUS`. -/
theorem regRead_regWrite_of_ne {addr other : RegAddr} (v : Word) (s : State) (h : other ≠ addr) (hs : other ≠ 0x47#8) :
    regRead (regWrite addr v s) other = regRead s other := by
  unfold regRead
  refine Option.map_congr fun r' hr' => ?_
  rcases regWrite_cases addr v s with ⟨r, hr, -, -, e⟩ | ⟨-, e⟩ <;> rw [e]
  · refine regValue_cfgStore_of_ne v s fun hrr => h ?_
    rw [← addr_of_regAt hr', ← addr_of_regAt hr, hrr]
  · exact regValue_setCfgErr_of_ne s fun hr => hs (hr ▸ addr_of_regAt hr').symm

theorem regWrite_of_unlocked {addr : RegAddr} {r : Reg} (hr : regAt addr = some r) (hw : r.writable = true) (v : Word)
    {s : State} (hl : s.cfgLock = false) : regWrite addr v s = cfgStore v s r := by
  simp [regWrite, hr, hw, hl]

theorem exec_cfgRead_of_regAt {addr : RegAddr} {r : Reg} (hr : regAt addr = some r) (s : State) :
    exec (.cfgRead addr) s = .next { s with dout := regValue s r } := by
  simp only [exec, execCfgRead, regRead, hr, Option.map_some, setDout]

/-- An accepted CFG_WRITE is read back as the word the store left in its register. -/
theorem exec_cfgRead_after_cfgWrite {addr : RegAddr} {r : Reg} (hr : regAt addr = some r) (hw : r.writable = true)
    {s t : State} (hl : s.cfgLock = false) (h : exec (.cfgWrite addr) s = .next t) :
    exec (.cfgRead addr) t = .next { t with dout := regValue (cfgStore s.inputs.din s r) r } := by
  cases Host.Outcome.next.inj h
  rw [exec_cfgRead_of_regAt hr, regWrite_of_unlocked hr hw _ hl]

/-- A stored preset gain is the word written. -/
theorem regValue_cfgStore_preset (v : Word) (s : State) (m : FlightMode) (t : GainTerm) (a : Axis) :
    regValue (cfgStore v s (.preset m t a)) (.preset m t a) = v := by
  simp [regValue, cfgStore, PresetBank.get_set, Gains.get_set]

/-- Settles O16: the register of the address says what is read back, and `regRead_regWrite_of_ne` is the frame. -/
theorem cfgWriteReadBack : Obligations.CfgWriteReadBack := fun s t addr h => by
  refine ⟨fun hl ha => ?_, fun hl ha => ?_, fun hl ha => ?_, fun other hne hs => ?_⟩
  · rcases ha with ha | rfl | rfl
    · have hr : regAt addr = some (.preset _ _ _) := if_pos ha
      rw [exec_cfgRead_after_cfgWrite hr rfl hl h, regValue_cfgStore_preset]
    · exact exec_cfgRead_after_cfgWrite (r := .idleOffset) rfl rfl hl h
    · exact exec_cfgRead_after_cfgWrite (r := .gsf) rfl rfl hl h
  · subst ha
    rw [← airframeStored_eq_and]
    exact exec_cfgRead_after_cfgWrite (r := .airframe) rfl rfl hl h
  · subst ha
    rw [← mixSignsStored_eq_and]
    exact exec_cfgRead_after_cfgWrite (r := .mixSigns) rfl rfl hl h
  · cases Host.Outcome.next.inj h
    exact regRead_regWrite_of_ne _ s hne hs

/-! ### The lock (R46) -/

/-- `t` is locked and has the configuration registers of `s`. -/
structure LockedConfigOf (s t : State) : Prop where
  cfgLock : t.cfgLock = true
  preset : t.preset = s.preset
  airframe : t.airframe = s.airframe
  mixSigns : t.mixSigns = s.mixSigns
  idleOffset : t.idleOffset = s.idleOffset
  gsf : t.gsf = s.gsf

theorem LockedConfigOf.refl {s : State} (h : s.cfgLock = true) : LockedConfigOf s s := ⟨h, rfl, rfl, rfl, rfl, rfl⟩

theorem LockedConfigOf.trans {s t u : State} (h : LockedConfigOf s t) (h' : LockedConfigOf t u) : LockedConfigOf s u :=
  ⟨h'.cfgLock, h'.preset.trans h.preset, h'.airframe.trans h.airframe, h'.mixSigns.trans h.mixSigns,
    h'.idleOffset.trans h.idleOffset, h'.gsf.trans h.gsf⟩

/-- No command clears `CFG_LOCK`: ITERATE sets it, and no other writes it. -/
theorem exec_keeps_lock {i : Instr} {s t : State} (hl : s.cfgLock = true) (h : exec i s = .next t) : t.cfgLock = true := by
  by_cases hi : i = .iterate
  · subst hi
    cases Host.Outcome.next.inj h
    simp
  · simp only [exec_control_frame hi h, hl]

/-- A step takes the host's next action, and a command leaves the others. -/
theorem step_host {s t : State} (h : step s = .next t) : t.host = s.host.tail := by
  obtain ⟨-, ⟨hh, rfl⟩ | ⟨now, rest, hh, rfl⟩ | ⟨inp, rest, i, hh, -, he⟩ | ⟨inp, rest, r, hh, -, rfl⟩⟩ := step_cases h <;>
    simp only [hh, List.tail]
  · rfl
  · by_cases hi : i = .iterate
    · subst hi
      cases Host.Outcome.next.inj he
      simp
    · simp only [exec_control_frame hi he, beginCommand_fields]
  · simp

/-- A step that is no reset keeps a locked configuration. -/
theorem step_keeps_lockedConfig {s t : State} (hl : s.cfgLock = true) (hreset : ∀ now, HostAct.reset now ∉ s.host)
    (h : step s = .next t) : LockedConfigOf s t := by
  obtain ⟨-, ⟨-, rfl⟩ | ⟨now, rest, hh, -⟩ | ⟨inp, rest, i, -, -, he⟩ | ⟨inp, rest, r, -, -, rfl⟩⟩ := step_cases h
  · exact .refl hl
  · exact absurd (by simp [hh]) (hreset now)
  · have hb : (beginCommand inp rest s).cfgLock = true := by simpa using hl
    obtain ⟨hpreset, hair, hmix, hidle, hgsf⟩ := exec_config_frame (.inl hb) he
    exact ⟨exec_keeps_lock hb he, hpreset, hair, hmix, hidle, hgsf⟩
  · exact ⟨by simpa using hl, rfl, rfl, rfl, rfl, rfl⟩

/-- A run without reset keeps a locked configuration, by induction on its steps. -/
theorem run_keeps_lockedConfig (k : Nat) {s : State} (hwf : s.params.wf = true) (hl : s.cfgLock = true)
    (hreset : ∀ now, HostAct.reset now ∉ s.host) :
    ∃ t, Host.Core.run Sys2Proof.core k s = .next t ∧ LockedConfigOf s t := by
  induction k generalizing s with
  | zero => exact ⟨s, rfl, .refl hl⟩
  | succ k ih =>
    obtain ⟨u, hu⟩ := step_total hwf
    have hsu := step_keeps_lockedConfig hl hreset hu
    have hreset' : ∀ now, HostAct.reset now ∉ u.host := fun now hmem =>
      hreset now (List.mem_of_mem_tail (step_host hu ▸ hmem))
    obtain ⟨t, ht, hut⟩ := ih ((step_params hu).symm ▸ hwf) hsu.cfgLock hreset'
    exact ⟨t, (run_succ hu).trans ht, hsu.trans hut⟩

/-- Settles O54 by `run_keeps_lockedConfig`, field by field. -/
theorem configFrozenOnceLocked : Obligations.ConfigFrozenOnceLocked := fun k s hwf hl hreset => by
  obtain ⟨t, ht, h⟩ := run_keeps_lockedConfig k hwf hl hreset
  exact ⟨t, ht, h.cfgLock, h.preset, h.airframe, h.mixSigns, h.idleOffset, h.gsf⟩

end Sys2Proof.Machine
end

section
/-! PROOFS. 30_encoding.md: the decoder against the encoder and the opcode map (R58, R59, R61, R62), illegal words (R60), the
operand `DIN` (R63), and the bits of a frame in wire order (R66, R67). -/

namespace Sys2Proof

/-! ### Decoder and encoder (R58, R59, R61) -/

/-- Every encoding decodes back. -/
@[simp] theorem decode_encode (i : Instr) : decode (encode i) = .instr i := by
  cases i with
  | cfgWrite addr | cfgRead addr => simp [decode, encode]
  | nop | iterate | freqReq | clrStatus => decide

theorem decode_eq_instr_iff {w : Word} {i : Instr} : decode w = .instr i ↔ w = encode i :=
  ⟨fun h => (encode_of_decode h).symm, fun h => h ▸ decode_encode i⟩

/-- Settles O3: a decoded word is an encoding by `encode_of_decode`, and encodings decode back by `decode_encode`. -/
theorem decodeEncodeAgree : Obligations.DecodeEncodeAgree := fun _ _ _ => decode_eq_instr_iff

/-! ### The opcode map (R59) -/

/-- The command with its address operand, if it has one, replaced. -/
def Instr.withAddr (addr : RegAddr) : Instr → Instr
  | .cfgWrite _ => .cfgWrite addr
  | .cfgRead _ => .cfgRead addr
  | i => i

@[simp] theorem rowOf_withAddr (addr : RegAddr) (i : Instr) : rowOf (i.withAddr addr) = rowOf i := by
  cases i <;> rfl

theorem withAddr_addrField_encode (i : Instr) : i.withAddr (addrField (encode i)) = i := by
  cases i <;> simp [Instr.withAddr, encode]

/-- The mask of a command with an address keeps `OP` and `RSVD`. -/
theorem fields_and_addressMask (w : Word) :
    opField (w &&& 0xFFFFF00F#32) = opField w ∧ rsvdField (w &&& 0xFFFFF00F#32) = rsvdField w := by
  simp only [opField, rsvdField, BitVec.extractLsb'_and]
  exact ⟨BitVec.and_allOnes, BitVec.and_allOnes⟩

/-- The row of a command with an address accepts the command words of its `OP`, whatever their address. -/
theorem and_addressMask_eq_iff (w : Word) (op : BitVec 4) :
    w &&& 0xFFFFF00F#32 = op.setWidth 32 ↔ w = commandWord (addrField w) op := by
  constructor
  · intro h
    rw [← Laws.EncodingRow.addressRow 0#8 op] at h
    have hop := congrArg opField h
    have hrsvd := congrArg rsvdField h
    simp only [fields_and_addressMask, opField_commandWord, rsvdField_commandWord] at hop hrsvd
    rw [← hop, commandWord_of_fields hrsvd]
  · intro h
    rw [h]
    exact Laws.EncodingRow.addressRow ..

/-- The row of a command without an address accepts one word. -/
theorem and_wordMask_eq_iff (w v : Word) : w &&& 0xFFFFFFFF#32 = v ↔ w = v := by
  have h : w &&& 0xFFFFFFFF#32 = w := BitVec.and_allOnes
  rw [h]

/-- A command's row accepts exactly the words that decode to that command, at their own address. -/
theorem accepts_rowOf_iff (w : Word) (i : Instr) :
    (rowOf i).accepts w = true ↔ decode w = .instr (i.withAddr (addrField w)) := by
  rw [decode_eq_instr_iff]
  refine beq_iff_eq.trans ?_
  cases i with
  | cfgWrite addr => exact and_addressMask_eq_iff w 0x1#4
  | cfgRead addr => exact and_addressMask_eq_iff w 0x2#4
  | nop | iterate | freqReq | clrStatus => exact and_wordMask_eq_iff w _

/-- The opcode map has the row of every command and no other. -/
theorem mem_opcodeRows_iff {r : OpRow} : r ∈ opcodeRows ↔ ∃ i, rowOf i = r := by
  constructor
  · intro h
    simp only [opcodeRows, List.mem_cons, List.not_mem_nil, or_false] at h
    rcases h with rfl | rfl | rfl | rfl | rfl | rfl
    exacts [⟨.nop, rfl⟩, ⟨.cfgWrite 0#8, rfl⟩, ⟨.cfgRead 0#8, rfl⟩, ⟨.iterate, rfl⟩, ⟨.freqReq, rfl⟩, ⟨.clrStatus, rfl⟩]
  · rintro ⟨i, rfl⟩
    cases i <;> simp [rowOf, opcodeRows]

/-- A row of the opcode map accepts exactly the words that decode to a command of that row. -/
theorem accepts_iff_exists_decode {r : OpRow} (hr : r ∈ opcodeRows) (w : Word) :
    r.accepts w = true ↔ ∃ i, decode w = .instr i ∧ rowOf i = r := by
  constructor
  · obtain ⟨i, rfl⟩ := mem_opcodeRows_iff.1 hr
    exact fun h => ⟨_, (accepts_rowOf_iff w i).1 h, rowOf_withAddr ..⟩
  · rintro ⟨i, hd, rfl⟩
    rw [accepts_rowOf_iff, hd, decode_eq_instr_iff.1 hd, withAddr_addrField_encode]

/-- A word is illegal exactly when it decodes to no command. -/
theorem exists_illegal_iff {w : Word} : (∃ r, decode w = .illegal r) ↔ ∀ i, decode w ≠ .instr i := by
  cases decode w <;> simp

/-- Settles O4: its six rows are instances of `accepts_rowOf_iff`, and `accepts_iff_exists_decode` turns the rest into
`decode` being a function with one answer for each word. -/
theorem opcodeMapByMatchAndMask : Obligations.OpcodeMapByMatchAndMask := by
  refine ⟨fun w => ?_, fun w r r' hr hr' h h' => ?_⟩
  · have row (i : Instr) := beq_iff_eq.symm.trans (accepts_rowOf_iff w i)
    refine ⟨row .nop, row (.cfgWrite 0#8), row (.cfgRead 0#8), row .iterate, row .freqReq, row .clrStatus, ?_⟩
    rw [exists_illegal_iff]
    constructor
    · intro hill r hr
      refine Bool.eq_false_iff.2 fun h => ?_
      obtain ⟨i, hd, -⟩ := (accepts_iff_exists_decode hr w).1 h
      exact hill i hd
    · intro hnone i hd
      have hr : rowOf i ∈ opcodeRows := mem_opcodeRows_iff.2 ⟨i, rfl⟩
      exact Bool.eq_false_iff.1 (hnone _ hr) ((accepts_iff_exists_decode hr w).2 ⟨i, hd, rfl⟩)
  · obtain ⟨i, hd, rfl⟩ := (accepts_iff_exists_decode hr w).1 h
    obtain ⟨j, hd', rfl⟩ := (accepts_iff_exists_decode hr' w).1 h'
    rw [Decoded.instr.inj (hd.symm.trans hd')]

/-! ### Written words (R58 to R60) -/

/-- Settles O2: nine closed facts of the decoder, by evaluation. -/
theorem writtenWordsDecode : Obligations.WrittenWordsDecode := by
  unfold Obligations.WrittenWordsDecode
  decide

/-! ### Illegal words (R60) -/

/-- The conditions under which R60 calls a word illegal, on its fields. -/
def IllegalFields (w : Word) : Prop :=
  6 ≤ (opField w).toNat ∨ (rsvdField w).toNat ≠ 0 ∨
    ((addrField w).toNat ≠ 0 ∧ (opField w).toNat ≠ 1 ∧ (opField w).toNat ≠ 2)

theorem not_illegalFields_encode (i : Instr) : ¬ IllegalFields (encode i) := by
  cases i <;> simp [IllegalFields, encode]

/-- The decoder rejects a word that R60 calls illegal: it is no command's encoding. -/
theorem exists_illegal_of_illegalFields {w : Word} (h : IllegalFields w) : ∃ r, decode w = .illegal r :=
  exists_illegal_iff.2 fun i hd => not_illegalFields_encode i (decode_eq_instr_iff.1 hd ▸ h)

end Sys2Proof

namespace Sys2Proof.Machine

/-- Settles O5: the word is rejected, and `step_of_illegal` is what the step does then. -/
theorem illegalWordOnlySetsIllegalCmd : Obligations.IllegalWordOnlySetsIllegalCmd := fun s inp rest hwf hh hill => by
  simp only [← opField_toNat, ← addrField_toNat, ← rsvdField_toNat] at hill
  obtain ⟨r, hd⟩ := exists_illegal_of_illegalFields hill
  exact step_of_illegal hwf hh hd

/-! ### The operand `DIN` (R63) -/

/-- A command whose `OP` is neither CFG_WRITE's nor FREQ_REQ's does not read `DIN`. -/
theorem samePortsFor_din {i : Instr} (hw : (opField (encode i)).toNat ≠ 1) (hf : (opField (encode i)).toNat ≠ 4)
    (inp : Inputs) (v : Word) : SamePortsFor i { inp with din := v } inp := by
  cases i with
  | cfgWrite addr => exact absurd (congrArg BitVec.toNat (opField_commandWord addr 0x1#4)) hw
  | freqReq => exact absurd rfl hf
  | iterate => exact ⟨⟨rfl, rfl, rfl, rfl, rfl, rfl, rfl⟩, rfl⟩
  | nop | cfgRead _ | clrStatus => trivial

/-- Settles O26: `DIN` is among the ports such a command does not read. -/
theorem dataWordIgnoredByOtherCommands : Obligations.DataWordIgnoredByOtherCommands :=
  fun s t inp rest v hh h hw hf => by
    refine step_of_samePorts hh rfl (fun i hd => ?_) h
    rw [← opField_toNat, decode_eq_instr_iff.1 hd] at hw hf
    exact samePortsFor_din hw hf inp v

/-! ### A frame in wire order (R66, R67) -/

/-- The bits of the preamble and of the trailer, first slot first. -/
theorem framePreamble_slot {t : Nat} (h : t < 6) :
    framePreamble.getLsbD (5 - t) = [true, false, false, false, true, false].getD t false := by
  interval_cases t <;> rfl

/-- Settles O41: slot `t` is bit `24 - t`, which `frameOf_getLsbD` finds in one of the four fields. -/
theorem frameBitsInWireOrder : Obligations.FrameBitsInWireOrder := fun n => by
  refine ⟨fun t h => ?preamble, fun t h h' => ?fieldA, fun t h h' => ?fieldB, fun t h h' => ?trailer⟩ <;>
    rw [frameOf_getLsbD]
  case preamble =>
    rw [if_neg (by omega), if_neg (by omega), if_neg (by omega), show 24 - t - 19 = 5 - t by omega]
    exact framePreamble_slot h
  case fieldA =>
    rw [if_neg (by omega), if_neg (by omega), if_pos (by omega), show 18 - (24 - t) = t - 6 by omega]
  case fieldB =>
    rw [if_neg (by omega), if_pos (by omega), show 11 - (24 - t) = t - 13 by omega]
  case trailer =>
    rw [if_pos (by omega), show 24 - t = 5 - (t - 19) by omega]
    exact framePreamble_slot (by omega)

end Sys2Proof.Machine
end

section
/-! PROOFS. 40_commands.md: a step on a legal word (R69), and what NOP, CFG_WRITE, CFG_READ, CLR_STATUS and ITERATE set and
leave (R70 to R74). -/

namespace Sys2Proof

/-- No command but NOP has `OP` 0 (30_encoding.md R59). -/
theorem eq_nop_of_opField_encode {i : Instr} (h : opField (encode i) = 0#4) : i = .nop := by
  cases i with
  | nop => rfl
  | cfgWrite addr | cfgRead addr | iterate | freqReq | clrStatus => simp [encode] at h

/-- A word with `OP` 0 and another bit set is illegal (30_encoding.md R60). -/
theorem exists_illegal_of_op_zero {w : Word} (hop : opField w = 0#4) (hw : w ≠ 0#32) : ∃ r, decode w = .illegal r :=
  exists_illegal_iff.2 fun i hd => by
    obtain rfl := decode_eq_instr_iff.1 hd
    obtain rfl := eq_nop_of_opField_encode hop
    exact hw rfl

end Sys2Proof

namespace Sys2Proof.Machine

/-! ### A step on a legal word (R69), and NOP (R70) -/

/-- Settles O6 by `step_of_instr`: `beginCommand` is the update the statement writes out. -/
theorem stepRunsDecodedCommand : Obligations.StepRunsDecodedCommand := fun _ _ _ _ => step_of_instr

/-- Settles O11: the word 0 is NOP's encoding, and no other word with `OP` 0 is an encoding. -/
theorem nopChangesNothing : Obligations.NopChangesNothing := by
  refine ⟨fun s => rfl, fun s inp rest hwf hh hcmd => ?_, fun w hop hw => ?_⟩
  · have hd : decode inp.cmd = .instr .nop := decode_eq_instr_iff.2 hcmd
    exact step_of_instr hwf hh hd
  · refine exists_illegal_of_op_zero (BitVec.eq_of_toNat_eq ?_) hw
    rw [opField_toNat, hop]
    rfl

/-! ### CLR_STATUS (R73) -/

/-- Clearing the sticky bits clears bits 12 and 13 of the status word (10_state.md R35). -/
theorem statusWord_clearSticky (s : State) : statusWord (clearSticky s) = statusWord s &&& 0xFFFFCFFF#32 := by
  refine BitVec.eq_of_getLsbD_eq fun i hi => ?_
  rw [BitVec.getLsbD_and, statusWord_getLsbD, statusWord_getLsbD]
  interval_cases i <;> simp

/-- Settles O12: the next state is `clearSticky`, whose status word is `statusWord_clearSticky`. -/
theorem clrStatusClearsStickyBits : Obligations.ClrStatusClearsStickyBits :=
  ⟨decode_encode .clrStatus, fun s => ⟨clearSticky s, rfl, rfl, statusWord_clearSticky s⟩⟩

/-! ### CFG_READ (R72) -/

theorem exec_cfgRead_addr (s : State) (r : Reg) : exec (.cfgRead r.addr) s = .next { s with dout := regValue s r } :=
  exec_cfgRead_of_regAt (regAt_addr r) s

theorem exec_cfgRead_of_unmapped {addr : RegAddr} (h : regAt addr = none) (s : State) :
    exec (.cfgRead addr) s = .next { s with dout := 0#32, cfgErr := true } := by
  rcases execCfgRead_cases addr s with ⟨r, hr, -⟩ | ⟨-, e⟩
  · cases h.symm.trans hr
  · exact e

/-- Settles O14: each mapped address of the statement is the address of a register, and `regAt_eq_none_iff` lists the
others. -/
theorem cfgReadReturnsRegister : Obligations.CfgReadReturnsRegister := by
  refine ⟨fun addr => decode_encode (.cfgRead addr), fun s => ?_⟩
  have read := exec_cfgRead_addr s
  exact ⟨fun md g a => read (.preset md g a), read .airframe, read .mixSigns, read .idleOffset, read .gsf,
    fun g a => read (.act g a), fun a => read (.integ a), read .lastFreq, read .lastTick, read .dt, read .gestT0,
    read .status, fun m => read (.motor m), fun a => read (.pidOut a),
    fun addr h => exec_cfgRead_of_unmapped ((regAt_eq_none_iff addr).2 h) s⟩

/-! ### CFG_WRITE (R71) -/

/-- The configuration registers are the registers below 0x24, read off the map (20_memory.md R43). -/
theorem writable_iff_addr_lt {addr : RegAddr} {r : Reg} (hr : regAt addr = some r) :
    r.writable = true ↔ addr.toNat < 0x24 := by
  have table : ∀ a : RegAddr, (regAt a).all (fun r => r.writable == decide (a.toNat < 0x24)) = true := by decide
  have row := table addr
  rw [hr, Option.all_some, beq_iff_eq] at row
  rw [row, decide_eq_true_iff]

theorem not_unmapped_of_regAt {addr : RegAddr} {r : Reg} (hr : regAt addr = some r) :
    ¬ ((0x1B ≤ addr.toNat ∧ addr.toNat ≤ 0x1F) ∨ (0x24 ≤ addr.toNat ∧ addr.toNat ≤ 0x2F) ∨
      (0x39 ≤ addr.toNat ∧ addr.toNat ≤ 0x3F) ∨ 0x4F ≤ addr.toNat) := by
  rw [← regAt_eq_none_iff, hr]
  exact Option.some_ne_none r

theorem exec_cfgWrite_addr {s : State} (hl : s.cfgLock = false) {r : Reg} (hw : r.writable = true) :
    exec (.cfgWrite r.addr) s = .next (cfgStore s.inputs.din s r) :=
  congrArg Host.Outcome.next (regWrite_of_unlocked (regAt_addr r) hw _ hl)

/-- A stored preset gain is read back, and every other preset gain is as before. -/
theorem cfgStore_preset_get (v : Word) (s : State) (m m' : FlightMode) (t t' : GainTerm) (a a' : Axis) :
    ((cfgStore v s (.preset m t a)).preset.get m').get t' a' =
      if m' = m ∧ t' = t ∧ a' = a then v else (s.preset.get m').get t' a' := by
  simp only [cfgStore, PresetBank.get_set]
  by_cases hm : m' = m
  · simp [hm, Gains.get_set]
  · simp [hm]

/-- The lock, an unmapped address and a read-only one refuse a write: only `CFG_ERR` is set (20_memory.md R44 to R46). -/
theorem exec_cfgWrite_of_refused {addr : RegAddr} {s : State}
    (h : s.cfgLock = true ∨ (0x1B ≤ addr.toNat ∧ addr.toNat ≤ 0x1F) ∨ 0x24 ≤ addr.toNat) :
    exec (.cfgWrite addr) s = .next { s with cfgErr := true } := by
  refine congrArg Host.Outcome.next ?_
  rcases regWrite_cases addr s.inputs.din s with ⟨r, hr, hw, hl, -⟩ | ⟨-, e⟩
  · have hmapped := not_unmapped_of_regAt hr
    have hlow := (writable_iff_addr_lt hr).1 hw
    have haddr := h.resolve_left (by simp [hl])
    omega
  · exact e

/-- Settles O15: an accepted write is `cfgStore` of the register at that address, and `exec_cfgWrite_of_refused` is the
rest. -/
theorem cfgWriteStoresOrRefuses : Obligations.CfgWriteStoresOrRefuses := by
  refine ⟨fun addr => decode_encode (.cfgWrite addr), fun s => ⟨fun hl => ?_, fun addr => exec_cfgWrite_of_refused⟩⟩
  refine ⟨fun md g a => ⟨_, exec_cfgWrite_addr hl (r := .preset md g a) rfl, rfl,
    fun md' g' a' => cfgStore_preset_get _ s md md' g g' a a'⟩, ?_, ?_,
    exec_cfgWrite_addr hl (r := .idleOffset) rfl, exec_cfgWrite_addr hl (r := .gsf) rfl⟩
  · rw [← airframeStored_eq]
    exact exec_cfgWrite_addr hl (r := .airframe) rfl
  · rw [← mixSignsStored_eq]
    exact exec_cfgWrite_addr hl (r := .mixSigns) rfl

/-! ### ITERATE (R74) -/

/-- A mapped address below 0x30 is that of a configuration register: 0x24 to 0x2F are unmapped (20_memory.md R43). -/
theorem writable_of_regAt {addr : RegAddr} {r : Reg} (hr : regAt addr = some r) (h : addr.toNat < 0x30) :
    r.writable = true := by
  have hmapped := not_unmapped_of_regAt hr
  rw [writable_iff_addr_lt hr]
  omega

/-- ITERATE writes no configuration register and not `LAST_FREQ`. -/
theorem regValue_iterate (s : State) {r : Reg} (h : r.writable = true ∨ r = .lastFreq) :
    regValue (iterate s) r = regValue s r := by
  cases r with
  | preset m t a | airframe | mixSigns | idleOffset | gsf | lastFreq => simp [regValue]
  | _ => simp [Reg.writable] at h

theorem regRead_iterate (s : State) {addr : RegAddr} (h : addr.toNat < 0x30 ∨ addr = 0x43#8) :
    regRead (iterate s) addr = regRead s addr := by
  refine Option.map_congr fun r hr => regValue_iterate s ?_
  rcases h with h | rfl
  · exact .inl (writable_of_regAt hr h)
  · exact .inr (Option.some.inj hr).symm

/-- Settles O38 by `iterate_frame`, and `regRead_iterate` for the addresses. -/
theorem iterateFrame : Obligations.IterateFrame := fun s => by
  refine ⟨iterate s, rfl, ?_⟩
  simp only [iterate_frame, lowThrottle_iff, true_and]
  exact fun addr => regRead_iterate s

end Sys2Proof.Machine
end

section
/-! PROOFS. 41_timing.md: the tick of an ITERATE (R76), its bound (R79), and its thresholds with the reference parameters
(R80). -/

namespace Sys2Proof.Machine

/-! ### The time step of an ITERATE (R76) -/

/-- The `DT` an ITERATE leaves, read as a number: the time step of the time since `LAST_TICK`. -/
theorem iterate_dt_toInt {s : State} (h : s.params.wf = true) :
    (iterate s).dt.toInt = dtOf s.params (elapsedUs s.inputs.nowUs s.lastTick) := by
  have hdt : (iterate s).dt = (tick s).dt := by simp only [iterate_frame]
  rw [hdt, tick_dt_toInt h]

theorem elapsedUs_eq_emod (now since : Word) : elapsedUs now since = ((now.toNat : Int) - since.toNat) % 2 ^ 32 := rfl

theorem dtOf_eq_min_ediv (p : Params) (e : Int) :
    dtOf p e = min (e * p.dtFactor / 2 ^ (32 - p.shift)) p.dtMax := by
  simp [dtOf, asr]

/-- A longer elapsed time never gives a smaller time step. -/
theorem dtOf_mono (p : Params) {e e' : Int} (h : e ≤ e') : dtOf p e ≤ dtOf p e' := by
  have hmul : e * (p.dtFactor : Int) ≤ e' * p.dtFactor := mul_le_mul_of_nonneg_right h (Int.natCast_nonneg _)
  rw [dtOf_eq_min_ediv, dtOf_eq_min_ediv]
  exact min_le_min_right _ (Int.ediv_le_ediv (by positivity) hmul)

/-- Settles O17: `dtOf` of the elapsed time is R76's formula. -/
theorem iterateTick : Obligations.IterateTick := fun s hwf => by
  refine ⟨iterate s, rfl, by simp only [iterate_frame], ?_⟩
  rw [iterate_dt_toInt hwf, dtOf_eq_min_ediv, elapsedUs_eq_emod]

/-! ### The bound of the time step (R79) -/

/-- Settles O18 by `dtOf_bounds`: an elapsed time is never negative. -/
theorem tickNeverExceedsBound : Obligations.TickNeverExceedsBound := fun s hwf => by
  refine ⟨iterate s, rfl, ?_⟩
  rw [iterate_dt_toInt hwf]
  exact dtOf_bounds hwf (elapsedUs_nonneg _ _)

/-! ### The thresholds with the reference parameters (R80) -/

/-- `Params.wf` does not read the two OPEN parameters, so one instance decides it for all. -/
theorem Params.referenceWith_wf (tDwell nAux : Nat) : (Params.referenceWith tDwell nAux).wf = true :=
  calc (Params.referenceWith tDwell nAux).wf
    _ = (Params.referenceWith 0 0).wf := rfl
    _ = true := by decide

/-- The `DT` an ITERATE of a reference instance leaves, read as a number. -/
theorem iterate_dt_toInt_of_reference {s : State} {tDwell nAux : Nat} (h : s.params = Params.referenceWith tDwell nAux) :
    (iterate s).dt.toInt = dtOf (Params.referenceWith tDwell nAux) (elapsedUs s.inputs.nowUs s.lastTick) := by
  rw [← h]
  exact iterate_dt_toInt (h ▸ Params.referenceWith_wf tDwell nAux)

/-- A shift by `32 - 16`, the factor 4295 and the bound 1310, whatever the two OPEN parameters are. -/
theorem dtOf_referenceWith (tDwell nAux : Nat) (e : Int) :
    dtOf (Params.referenceWith tDwell nAux) e = min (e * 4295 / 65536) 1310 := rfl

/-- 16 is the first elapsed time with `65536 ≤ elapsed * 4295`. -/
theorem dtOf_referenceWith_eq_zero_iff (tDwell nAux : Nat) {e : Int} (he : 0 ≤ e) :
    dtOf (Params.referenceWith tDwell nAux) e = 0 ↔ e ≤ 15 := by
  rw [dtOf_referenceWith]
  omega

/-- 19989 is the first elapsed time with `1310 * 65536 ≤ elapsed * 4295`. -/
theorem dtOf_referenceWith_eq_max_iff (tDwell nAux : Nat) (e : Int) :
    dtOf (Params.referenceWith tDwell nAux) e = 1310 ↔ 19989 ≤ e := by
  rw [dtOf_referenceWith]
  omega

/-- Settles O19: both thresholds by `dtOf_referenceWith`, the order by `dtOf_mono`. -/
theorem tickThresholdsAtReference : Obligations.TickThresholdsAtReference := by
  refine ⟨fun s tDwell nAux h => ⟨iterate s, rfl, ?_⟩,
    fun s s' tDwell nAux tDwell' nAux' h h' hle => ⟨iterate s, iterate s', rfl, rfl, ?_⟩⟩
  · rw [iterate_dt_toInt_of_reference h, ← elapsedUs_eq_emod]
    exact ⟨dtOf_referenceWith_eq_zero_iff _ _ (elapsedUs_nonneg _ _), dtOf_referenceWith_eq_max_iff _ _ _⟩
  · rw [iterate_dt_toInt_of_reference h, iterate_dt_toInt_of_reference h', dtOf_referenceWith tDwell',
      ← dtOf_referenceWith tDwell nAux]
    exact dtOf_mono _ hle

end Sys2Proof.Machine
end

section
/-! PROOFS. 42_arming.md: the arming step of an ITERATE (R85 to R90, R92), the failsafe input (R93), and the ways between the
arm states (R94). -/

namespace Sys2Proof.Machine

open Sys2Proof.Safety

/-! ### The transitions of an ITERATE (R85)

The arm transition is `armed_of_arms`. -/

theorem not_arms_of_disarms {s : State} (h : Disarms s) : ¬ Arms s := fun ⟨hdis, _⟩ => h.1 hdis

theorem not_disarms_of_starts {s : State} (h : Starts s) : ¬ Disarms s := fun ⟨_, hlow, _⟩ => h.2 hlow

theorem not_arms_of_starts {s : State} (h : Starts s) : ¬ Arms s := fun ⟨_, hlow, _⟩ => h.2 hlow

/-- An ITERATE that meets the disarm condition makes the disarm transition. -/
theorem armed_of_disarms {s : State} (h : Disarms s) : armed s = disarmTransition (tick (lockConfig s)) := by
  rcases armed_cases s with ⟨ha, -⟩ | ⟨-, e⟩ | ⟨hs, -⟩ | ⟨-, hd, -⟩
  · exact absurd ha (not_arms_of_disarms h)
  · exact e
  · exact absurd h (not_disarms_of_starts hs)
  · exact absurd h hd

/-- An ITERATE that meets the start condition makes the start transition. -/
theorem armed_of_starts {s : State} (h : Starts s) : armed s = startTransition (tick (lockConfig s)) := by
  rcases armed_cases s with ⟨ha, -⟩ | ⟨hd, -⟩ | ⟨-, e⟩ | ⟨-, -, hs, -⟩
  · exact absurd ha (not_arms_of_starts h)
  · exact absurd hd (not_disarms_of_starts h)
  · exact e
  · exact absurd h hs

theorem iterate_armState (s : State) : (iterate s).armState = (armed s).armState := (iterate_gate_fields s).1

theorem iterate_armState_of_disarms {s : State} (h : Disarms s) : (iterate s).armState = .disarmed := by
  simp [iterate_armState, armed_of_disarms h]

theorem iterate_armState_of_starts {s : State} (h : Starts s) : (iterate s).armState = .armedStarted := by
  simp [iterate_armState, armed_of_starts h]

theorem iterate_armState_of_none {s : State} (ha : ¬ Arms s) (hd : ¬ Disarms s) (hs : ¬ Starts s) :
    (iterate s).armState = s.armState := by
  rw [iterate_armState]
  rcases armed_cases s with ⟨h, -⟩ | ⟨h, -⟩ | ⟨h, -⟩ | ⟨-, -, -, e⟩
  · exact absurd h ha
  · exact absurd h hd
  · exact absurd h hs
  · simp [e]

/-- Settles O20: the arm state of each case, and `iterate_gains_of_not_arms` for all cases but the arm transition. -/
theorem armStateTransitions : Obligations.ArmStateTransitions := fun s =>
  ⟨iterate s, rfl, iterate_armState_of_arms,
    fun h => ⟨iterate_armState_of_disarms h, iterate_gains_of_not_arms (not_arms_of_disarms h)⟩,
    fun h => ⟨iterate_armState_of_starts h, iterate_gains_of_not_arms (not_arms_of_starts h)⟩,
    fun ha hd hs => ⟨iterate_armState_of_none ha hd hs, iterate_gains_of_not_arms ha⟩⟩

/-! ### The arm transition (R86 to R88, R92) -/

/-- An ITERATE that arms selects the mode by the roll stick and loads its gains (R87, R88). -/
theorem iterate_gains_of_arms {s : State} (h : Arms s) :
    (iterate s).flightMode = modeSelect s.params s.airframe s.inputs.roll ∧
    (iterate s).act = s.preset.get (iterate s).flightMode := by
  obtain ⟨-, hmode, hact, -⟩ := iterate_gate_fields s
  rw [hact, hmode, armed_of_arms h]
  simp

/-- An ITERATE that arms does not run the gesture step, so the reset detector and the one event stay (R86, R92). -/
theorem iterate_gesture_of_arms {s : State} (h : Arms s) :
    (iterate s).gestState = .start ∧ (iterate s).gestCount = 0#3 ∧ (iterate s).gestT0 = s.gestT0 ∧
    (iterate s).events = s.events ++ [.calArm] := by
  obtain ⟨-, -, -, hstate, hcount, ht0, hevents⟩ := iterate_gate_fields s
  have hruns : ¬ GestureRuns s := fun hg => not_arms_of_gestureRuns hg h
  rw [hstate, hcount, ht0, hevents, gestureIfEnabled_of_not_runs hruns, armed_of_arms h]
  simp

/-- `mode_select` at each position of the roll stick (R87). -/
theorem modeSelect_cases {p : Params} (h : 0 ≤ p.extreme) (airframe r : Word) :
    (airframe.getLsbD 2 = false →
      (r.toInt > p.extreme → modeSelect p airframe r = .fullAcro) ∧
      (r.toInt < -p.extreme → modeSelect p airframe r = .semiAcro)) ∧
    (airframe.getLsbD 2 = true →
      (r.toInt < -p.extreme → modeSelect p airframe r = .fullAcro) ∧
      (r.toInt > p.extreme → modeSelect p airframe r = .semiAcro)) ∧
    (-p.extreme ≤ r.toInt → r.toInt ≤ p.extreme → modeSelect p airframe r = .level) := by
  have hnot : r.toInt < -p.extreme → ¬ r.toInt > p.extreme := by omega
  rw [modeSelect_eq h]
  generalize airframe.getLsbD 2 = rollDir
  refine ⟨fun hdir => ⟨fun hhi => ?_, fun hlo => ?_⟩, fun hdir => ⟨fun hlo => ?_, fun hhi => ?_⟩, fun hlo hhi => ?_⟩
  · simp [hdir, hhi]
  · simp [hdir, hlo, hnot hlo]
  · simp [hdir, hlo, hnot hlo]
  · simp [hdir, hhi]
  · rw [if_neg (not_lt.2 hhi), if_neg (not_lt.2 hlo)]

/-- Settles O21: the mode by `modeSelect_cases`, its gains by `iterate_gains_of_arms`, the gesture detector and the event by
`iterate_gesture_of_arms`. -/
theorem armingSelectsModeAndLoadsGains : Obligations.ArmingSelectsModeAndLoadsGains := fun s hwf h => by
  obtain ⟨-, -, -, -, -, hextreme, -⟩ := Params.wf_facts hwf
  obtain ⟨hmode, hact⟩ := iterate_gains_of_arms h
  obtain ⟨hnormal, hinverted, hlevel⟩ := modeSelect_cases hextreme s.airframe s.inputs.roll
  rw [← hmode] at hnormal hinverted hlevel
  exact ⟨iterate s, rfl, iterate_armState_of_arms h, hnormal, hinverted, hlevel, fun g a => by rw [hact],
    iterate_gesture_of_arms h⟩

/-! ### The failsafe input (R93) -/

/-- Settles O24: `FAILSAFE_IN` is none of the ports that the control loop computes with. -/
theorem failsafeOnlyMirrored : Obligations.FailsafeOnlyMirrored := fun s b => by
  have hports : SameControlPorts { s.inputs with failsafeIn := b } s.inputs := ⟨rfl, rfl, rfl, rfl, rfl, rfl, rfl⟩
  exact ⟨iterate s, rfl, by simp, congrArg Host.Outcome.next (iterate_setInputs hports)⟩

/-! ### The ways between the arm states (R94) -/

theorem iterate_lowThr_eq_true {s : State} (h : Low s) : (iterate s).lowThr = true := by
  simpa [lowThrottle_iff] using h

theorem iterate_lowThr_eq_false {s : State} (h : ¬ Low s) : (iterate s).lowThr = false := by
  simpa [← lowThrottle_iff] using h

/-- With low throttle the gate is closed, and each motor is at its floor (45_mixer.md R114). -/
theorem iterate_motor_of_low {s : State} (h : Low s) (m : Fin 4) :
    (iterate s).motor.get m = toWord s.params.minMotorOutput := by
  simp [iterate_motor, (lowThrottle_iff s).2 h, motorCommand]

/-- After a reset each motor is at its floor (70_reset_and_hazards.md R143). -/
theorem resetWith_motor (p : Params) (now : Word) (rest : List HostAct) (m : Fin 4) :
    (State.resetWith p now rest).motor.get m = toWord p.minMotorOutput := by
  fin_cases m <;> rfl

/-- An ITERATE keeps the arm state, or makes one of the three transitions, with what comes with it. -/
theorem iterate_edges (s : State) :
    (iterate s).armState = s.armState ∨
    (Arms s ∧ (iterate s).armState = .armedNotStarted ∧ (iterate s).events = s.events ++ [.calArm] ∧
      (iterate s).lowThr = true ∧ (iterate s).act = (iterate s).preset.get (iterate s).flightMode) ∨
    (Starts s ∧ (iterate s).armState = .armedStarted ∧ (iterate s).lowThr = false ∧
      (iterate s).flightMode = s.flightMode ∧ (iterate s).act = s.act) ∨
    (Disarms s ∧ (iterate s).armState = .disarmed ∧ (iterate s).lowThr = true ∧
      (iterate s).flightMode = s.flightMode ∧ (iterate s).act = s.act ∧
      ∀ m : Fin 4, (iterate s).motor.get m = toWord s.params.minMotorOutput) := by
  by_cases ha : Arms s
  · obtain ⟨-, hact⟩ := iterate_gains_of_arms ha
    obtain ⟨-, -, -, hevents⟩ := iterate_gesture_of_arms ha
    obtain ⟨-, hlow, -⟩ := id ha
    exact .inr (.inl ⟨ha, iterate_armState_of_arms ha, hevents, iterate_lowThr_eq_true hlow, by simpa using hact⟩)
  obtain ⟨hmode, hact⟩ := iterate_gains_of_not_arms ha
  by_cases hs : Starts s
  · exact .inr (.inr (.inl ⟨hs, iterate_armState_of_starts hs, iterate_lowThr_eq_false hs.2, hmode, hact⟩))
  by_cases hd : Disarms s
  · obtain ⟨-, hlow, -⟩ := id hd
    exact .inr (.inr (.inr ⟨hd, iterate_armState_of_disarms hd, iterate_lowThr_eq_true hlow, hmode, hact,
      iterate_motor_of_low hlow⟩))
  · exact .inl (iterate_armState_of_none ha hd hs)

/-- Settles O22: a reset always disarms, `iterate_edges` is the step on an ITERATE, and every other step keeps the arm state.
The arming conditions read no port that sampling changes. -/
theorem armStateEdges : Obligations.ArmStateEdges := fun s t h => by
  obtain ⟨-, ⟨-, rfl⟩ | ⟨now, rest, hh, rfl⟩ | ⟨inp, rest, i, hh, hd, he⟩ | ⟨inp, rest, r, -, -, rfl⟩⟩ := step_cases h
  · exact .inl rfl
  · by_cases hdis : s.armState = .disarmed
    · exact .inl hdis.symm
    · exact .inr (.inl ⟨⟨now, rest, hh⟩, hdis, rfl, resetWith_motor s.params now rest⟩)
  · by_cases hi : i = .iterate
    · subst hi
      cases Host.Outcome.next.inj he
      exact (iterate_edges (beginCommand inp rest s)).imp_right fun edge =>
        .inr ⟨inp, rest, hh, (encode_of_decode hd).symm, edge⟩
    · obtain ⟨-, harm, -⟩ := exec_control_frame hi he
      exact .inl harm
  · exact .inl rfl

end Sys2Proof.Machine
end

section
/-! PROOFS. 43_gesture.md: when the gesture step runs (R95), what a sample counts (R96 to R98), firing (R99), and the run of
alternating crossings (R100). -/

namespace Sys2Proof.Machine

open Sys2Proof.Safety

/-! ### When the gesture step runs (R95) -/

/-- An ITERATE that neither runs the gesture step nor arms leaves the detector. -/
theorem iterate_gesture_of_not_runs {s : State} (hruns : ¬ GestureRuns s) (harms : ¬ Arms s) :
    (iterate s).gestState = s.gestState ∧ (iterate s).gestCount = s.gestCount ∧ (iterate s).gestT0 = s.gestT0 ∧
    (iterate s).events = s.events := by
  obtain ⟨-, -, -, hstate, hcount, ht0, hevents⟩ := iterate_gate_fields s
  obtain ⟨hstate', hcount', ht0', hevents', -⟩ := armed_gesture_fields harms
  rw [hstate, hcount, ht0, hevents, gestureIfEnabled_of_not_runs hruns]
  exact ⟨hstate', hcount', ht0', hevents'⟩

/-- Settles O27: `gestureRuns_iff`, since the arm state is that of the arming step; then the two ways of not running. -/
theorem gestureRunsOnlyDisarmedAndLow : Obligations.GestureRunsOnlyDisarmedAndLow := fun s => by
  refine ⟨iterate s, rfl, ?_, iterate_gesture_of_not_runs, fun h => ?_⟩
  · rw [iterate_armState]
    exact gestureRuns_iff s
  · obtain ⟨hstate, hcount, ht0, -⟩ := iterate_gesture_of_arms h
    exact ⟨fun hruns => not_arms_of_gestureRuns hruns h, hstate, hcount, ht0⟩

/-! ### The deadline and the crossing test (R96 to R98) -/

theorem gestSettled_of_deadband {s : State} (h : InDeadband s.params s.inputs) :
    gestSettled s = if GestureLate s then { state := .start, count := 0, t0 := s.gestT0 } else gestWorkOf s := by
  rw [gestSettled, gestSide_eq_none.2 h]
  rfl

/-- A sample on a side is put to the crossing test after the deadline test. -/
theorem gestSettled_of_side {s : State} {sd : GestState} (hT : 0 ≤ s.params.gestureT) (h : OnSide s.params s.inputs sd) :
    gestSettled s = gestCross (some sd) s.inputs.nowUs
      (if GestureLate s then { state := .start, count := 0, t0 := s.gestT0 } else gestWorkOf s) := by
  rw [gestSettled, (gestSide_eq_some hT).2 h]

/-- A sample on a side, in Start or late, is a first crossing. -/
theorem gestSettled_of_first {s : State} {sd : GestState} (hT : 0 ≤ s.params.gestureT) (h : OnSide s.params s.inputs sd)
    (hfirst : s.gestState = .start ∨ GestureLate s) :
    gestSettled s = { state := sd, count := 1, t0 := s.inputs.nowUs } := by
  rw [gestSettled_of_side hT h]
  split
  · rfl
  · next hlate => simp [gestCross, gestWorkOf, hfirst.resolve_right hlate]

/-- A sample in time on the recorded side is no crossing. -/
theorem gestSettled_of_same_side {s : State} (hT : 0 ≤ s.params.gestureT) (h : OnSide s.params s.inputs s.gestState)
    (hlate : ¬ GestureLate s) : gestSettled s = gestWorkOf s := by
  rw [gestSettled_of_side hT h, if_neg hlate]
  simp [gestCross, gestWorkOf, onSide_ne_start h]

/-- A sample in time on the other side is one crossing more. -/
theorem gestSettled_of_other_side {s : State} {sd : GestState} (hT : 0 ≤ s.params.gestureT)
    (h : OnSide s.params s.inputs sd) (hstart : s.gestState ≠ .start) (hlate : ¬ GestureLate s) (hne : sd ≠ s.gestState) :
    gestSettled s = { state := sd, count := s.gestCount.toNat + 1, t0 := s.inputs.nowUs } := by
  rw [gestSettled_of_side hT h, if_neg hlate]
  simp [gestCross, gestWorkOf, hstart, hne]

/-- Short of `GESTURE_N`, the settled working values are stored and nothing is emitted. -/
theorem iterate_of_settled_ne {s : State} {g : GestWork} (hruns : GestureRuns s) (hg : gestSettled s = g)
    (hne : g.count ≠ s.params.gestureN) :
    (iterate s).events = s.events ∧ (iterate s).gestState = g.state ∧
    (iterate s).gestCount = BitVec.ofNat 3 g.count ∧ (iterate s).gestT0 = g.t0 := by
  subst hg
  obtain ⟨hstate, hcount, ht0, hevents⟩ := (iterate_gesture hruns).1 hne
  exact ⟨hevents, hstate, hcount, ht0⟩

/-- With the working values settled as they were, an ITERATE leaves the detector and emits nothing. -/
theorem iterate_of_settled_unchanged {s : State} (hruns : GestureRuns s) (hg : gestSettled s = gestWorkOf s)
    (hlt : s.gestCount.toNat < s.params.gestureN) :
    (iterate s).events = s.events ∧ (iterate s).gestState = s.gestState ∧ (iterate s).gestCount = s.gestCount ∧
    (iterate s).gestT0 = s.gestT0 := by
  simpa [gestWorkOf] using iterate_of_settled_ne hruns hg hlt.ne

/-- A count below `GESTURE_N` fits in the three bits of its register (00_scope.md R6, 10_state.md R25). -/
theorem toNat_ofNat_of_lt_gestureN {p : Params} (hwf : p.wf = true) {n : Nat} (h : n < p.gestureN) :
    (BitVec.ofNat 3 n).toNat = n := by
  obtain ⟨-, -, -, -, -, -, ⟨-, hN⟩, -⟩ := Params.wf_facts hwf
  rw [BitVec.toNat_ofNat]
  exact Nat.mod_eq_of_lt (by omega)

/-- Settles O28: the settled working values of each sample, stored by `iterate_of_settled_ne`. -/
theorem gestureCountsCrossings : Obligations.GestureCountsCrossings := fun s hwf hruns hlt => by
  obtain ⟨-, -, -, -, hT, -⟩ := Params.wf_facts hwf
  refine ⟨iterate s, rfl, fun hdead => ?_, fun sd hside => ⟨fun hfirst hN1 => ?_, ?_, ?_⟩⟩
  · have hg := gestSettled_of_deadband hdead
    by_cases hlate : GestureLate s
    · rw [if_pos hlate] at hg
      obtain ⟨hevents, hstate, hcount, ht0⟩ := iterate_of_settled_ne hruns hg (Nat.zero_lt_of_lt hlt).ne
      exact ⟨hevents, ht0, fun _ => ⟨hstate, hcount⟩, fun h => absurd hlate h⟩
    · rw [if_neg hlate] at hg
      obtain ⟨hevents, hstate, hcount, ht0⟩ := iterate_of_settled_unchanged hruns hg hlt
      exact ⟨hevents, ht0, fun h => absurd h hlate, fun _ => ⟨hstate, hcount⟩⟩
  · exact iterate_of_settled_ne hruns (gestSettled_of_first hT hside hfirst) hN1.ne
  · rintro - hlate rfl
    exact iterate_of_settled_unchanged hruns (gestSettled_of_same_side hT hside hlate) hlt
  · intro hstart hlate hne hN1
    obtain ⟨hevents, hstate, hcount, ht0⟩ :=
      iterate_of_settled_ne hruns (gestSettled_of_other_side hT hside hstart hlate hne) hN1.ne
    exact ⟨hevents, hstate, by rw [hcount, toNat_ofNat_of_lt_gestureN hwf hN1], ht0⟩

/-! ### Firing (R99) -/

/-- Settled at `GESTURE_N`, an ITERATE emits the two events and returns the detector to Start. -/
theorem iterate_of_settled_eq {s : State} {g : GestWork} (hruns : GestureRuns s) (hg : gestSettled s = g)
    (hN : g.count = s.params.gestureN) :
    (iterate s).events = s.events ++ [.calGesture, .save] ∧ (iterate s).gestState = .start ∧
    (iterate s).gestCount = 0#3 ∧ (iterate s).gestT0 = g.t0 := by
  subst hg
  obtain ⟨hstate, hcount, ht0, hevents⟩ := (iterate_gesture hruns).2 hN
  exact ⟨hevents, hstate, hcount, ht0⟩

/-- Settles O29: either crossing settles at `GESTURE_N`. -/
theorem gestureFiresAtN : Obligations.GestureFiresAtN := fun s sd hwf hruns hside hcross => by
  obtain ⟨-, -, -, -, hT, -⟩ := Params.wf_facts hwf
  refine ⟨iterate s, rfl, ?_⟩
  rcases hcross with ⟨hfirst, hN⟩ | ⟨hstart, hlate, hne, hN⟩
  · exact iterate_of_settled_eq hruns (gestSettled_of_first hT hside hfirst) hN.symm
  · exact iterate_of_settled_eq hruns (gestSettled_of_other_side hT hside hstart hlate hne) hN

/-! ### The run of alternating crossings (R100)

The invariant of the run is `Counted`: after `k` ITERATEs the detector has counted `k` crossings. -/

theorem onSide_unique {p : Params} (hT : 0 ≤ p.gestureT) {inp : Inputs} {sd sd' : GestState} (h : OnSide p inp sd)
    (h' : OnSide p inp sd') : sd = sd' :=
  Option.some.inj (((gestSide_eq_some hT).2 h).symm.trans ((gestSide_eq_some hT).2 h'))

/-- From `s` the host issues `GESTURE_N` ITERATEs, with the bundles `ins`, that a Disarmed detector runs on, their samples on
alternating sides and each in time after the one before. -/
structure AlternatingRun (s : State) (ins : Nat → Inputs) : Prop where
  params_wf : s.params.wf = true
  host : ∀ k, k < s.params.gestureN → s.host[k]? = some (.command (ins k))
  enabled : ∀ k, k < s.params.gestureN → (ins k).cmd = 0x00000003#32 ∧ Low { s with inputs := ins k } ∧
    ¬ YawArms { s with inputs := ins k } ∧ ∃ sd, OnSide s.params (ins k) sd
  alternating : ∀ k, k + 1 < s.params.gestureN → ∃ sd sd', OnSide s.params (ins k) sd ∧
    OnSide s.params (ins (k + 1)) sd' ∧ sd ≠ sd' ∧
    (((ins (k + 1)).nowUs.toNat : Int) - ((ins k).nowUs.toNat : Int)) % 4294967296 ≤ s.params.gestureTimeoutUs

/-- `t` is Disarmed, `k` commands of the host of `s` later, with `k` crossings counted: in Start when `k` is 0, else with the
side and the time of sample `k - 1` recorded. -/
structure Counted (s : State) (ins : Nat → Inputs) (k : Nat) (t : State) : Prop where
  params : t.params = s.params
  airframe : t.airframe = s.airframe
  host : t.host = s.host.drop k
  armState : t.armState = .disarmed
  count : t.gestCount.toNat = k
  events : 0 < k → t.events = []
  recorded : match k with
    | 0 => t.gestState = .start
    | j + 1 => OnSide s.params (ins j) t.gestState ∧ t.gestT0 = (ins j).nowUs

/-- The state in which the command `k` of an alternating run starts from `t`. -/
def atSample (s : State) (ins : Nat → Inputs) (k : Nat) (t : State) : State :=
  beginCommand (ins k) (s.host.drop (k + 1)) t

section
variable {s t : State} {ins : Nat → Inputs} {k : Nat}

theorem Counted.atSample_params (h : Counted s ins k t) : (atSample s ins k t).params = s.params := h.params

/-- The next step of an alternating run is an ITERATE. -/
theorem Counted.step (hrun : AlternatingRun s ins) (h : Counted s ins k t) (hk : k < s.params.gestureN) :
    step t = .next (iterate (atSample s ins k t)) := by
  have hhost : t.host = .command (ins k) :: s.host.drop (k + 1) := by
    rw [h.host, List.drop_eq_getElem?_toList_append, hrun.host k hk]
    rfl
  obtain ⟨hcmd, -⟩ := hrun.enabled k hk
  have hdecode : decode (ins k).cmd = .instr .iterate := by rw [hcmd]; rfl
  exact step_of_instr (h.params ▸ hrun.params_wf) hhost hdecode

/-- The ITERATEs of an alternating run run the gesture step. -/
theorem Counted.gestureRuns (hrun : AlternatingRun s ins) (h : Counted s ins k t) (hk : k < s.params.gestureN) :
    GestureRuns (atSample s ins k t) := by
  obtain ⟨-, hlow, hyaw, -⟩ := hrun.enabled k hk
  exact ⟨by simpa [Low, atSample, h.params] using hlow,
    .inl ⟨h.armState, by simpa [YawArms, atSample, h.params, h.airframe] using hyaw⟩⟩

/-- Each sample of an alternating run is one crossing more: a first one from Start, else in time and on the other side. -/
theorem Counted.settled (hrun : AlternatingRun s ins) (h : Counted s ins k t) (hk : k < s.params.gestureN) :
    ∃ sd, OnSide s.params (ins k) sd ∧
      gestSettled (atSample s ins k t) = { state := sd, count := k + 1, t0 := (ins k).nowUs } := by
  obtain ⟨-, -, -, -, hT, -⟩ := Params.wf_facts hrun.params_wf
  have hT' : 0 ≤ (atSample s ins k t).params.gestureT := h.atSample_params ▸ hT
  have hside {sd : GestState} (hsd : OnSide s.params (ins k) sd) :
      OnSide (atSample s ins k t).params (atSample s ins k t).inputs sd := h.atSample_params ▸ hsd
  cases k with
  | zero =>
    obtain ⟨-, -, -, sd, hsd⟩ := hrun.enabled 0 hk
    exact ⟨sd, hsd, gestSettled_of_first hT' (hside hsd) (.inl h.recorded)⟩
  | succ j =>
    obtain ⟨hprev, ht0⟩ := h.recorded
    obtain ⟨sd, sd', hsd, hsd', hne, htime⟩ := hrun.alternating j hk
    have hstate : t.gestState = sd := onSide_unique hT hprev hsd
    have hlate : ¬ GestureLate (atSample s ins (j + 1) t) := fun ⟨_, hover⟩ => by
      simp only [atSample, beginCommand_fields, sampleBundle_fields, ht0, h.params] at hover
      exact hover.not_ge htime
    have hg := gestSettled_of_other_side hT' (hside hsd') (onSide_ne_start hprev) hlate
      (by simpa [atSample, hstate] using hne.symm)
    exact ⟨sd', hsd', by simpa [atSample, h.count] using hg⟩

/-- A crossing short of `GESTURE_N` is counted. -/
theorem Counted.succ (hrun : AlternatingRun s ins) (h : Counted s ins k t) (hk : k + 1 < s.params.gestureN) :
    Counted s ins (k + 1) (iterate (atSample s ins k t)) := by
  have hk' : k < s.params.gestureN := by omega
  have hruns := h.gestureRuns hrun hk'
  obtain ⟨sd, hsd, hg⟩ := h.settled hrun hk'
  have hne : k + 1 ≠ (atSample s ins k t).params.gestureN := h.atSample_params ▸ hk.ne
  obtain ⟨hevents, hstate, hcount, ht0⟩ := iterate_of_settled_ne hruns hg hne
  exact {
    params := by simp [atSample, h.params]
    airframe := by simp [atSample, h.airframe]
    host := by simp [atSample]
    armState := (iterate_armState _).trans ((gestureRuns_iff _).1 hruns).1
    count := by rw [hcount, toNat_ofNat_of_lt_gestureN hrun.params_wf hk]
    events := fun _ => hevents
    recorded := ⟨hstate ▸ hsd, ht0⟩ }

/-- Before the last sample of an alternating run, `k` steps count `k` crossings, by induction on `k`. -/
theorem AlternatingRun.counted (hrun : AlternatingRun s ins) (h0 : Counted s ins 0 s) (hk : k < s.params.gestureN) :
    ∃ t, Host.Core.run Sys2Proof.core k s = .next t ∧ Counted s ins k t := by
  induction k with
  | zero => exact ⟨s, rfl, h0⟩
  | succ k ih =>
    have hk' : k < s.params.gestureN := by omega
    obtain ⟨t, ht, hcounted⟩ := ih hk'
    exact ⟨_, run_snoc ht (hcounted.step hrun hk'), hcounted.succ hrun hk⟩

/-- The last sample of an alternating run fires. -/
theorem AlternatingRun.fires (hrun : AlternatingRun s ins) (h0 : Counted s ins 0 s) :
    ∃ t, Host.Core.run Sys2Proof.core s.params.gestureN s = .next t ∧ t.events = [.calGesture, .save] ∧
      t.gestState = .start ∧ t.gestCount = 0#3 := by
  obtain ⟨-, -, -, -, -, -, ⟨hN, -⟩, -⟩ := Params.wf_facts hrun.params_wf
  obtain ⟨n, hn⟩ : ∃ n, s.params.gestureN = n + 1 := ⟨s.params.gestureN - 1, by omega⟩
  have hlast : n < s.params.gestureN := by omega
  obtain ⟨t, ht, hcounted⟩ := hrun.counted h0 hlast
  have hruns := hcounted.gestureRuns hrun hlast
  obtain ⟨sd, -, hg⟩ := hcounted.settled hrun hlast
  have heq : n + 1 = (atSample s ins n t).params.gestureN := hcounted.atSample_params ▸ hn.symm
  obtain ⟨hevents, hstate, hcount, -⟩ := iterate_of_settled_eq hruns hg heq
  exact ⟨_, hn ▸ run_snoc ht (hcounted.step hrun hlast), hevents, hstate, hcount⟩

end

/-- Settles O30: Start with count 0 is `Counted` at 0, `AlternatingRun.counted` is the run short of the last sample, and
`AlternatingRun.fires` the last one. -/
theorem alternatingCrossingsFireOnce : Obligations.AlternatingCrossingsFireOnce := by
  intro s ins rest hinv hdis hstart hhost henabled halternating
  have hrun : AlternatingRun s ins := by
    refine ⟨hinv.params_wf, fun k hk => ?_, henabled, halternating⟩
    rw [hhost, List.getElem?_append_left (by simpa using hk)]
    simp [hk]
  have h0 : Counted s ins 0 s :=
    ⟨rfl, rfl, rfl, hdis, by rw [hinv.gest_start.1 hstart]; rfl, fun h => absurd h (by omega), hstart⟩
  refine ⟨fun k hpos hk => ?_, hrun.fires h0⟩
  obtain ⟨t, ht, hcounted⟩ := hrun.counted h0 hk
  exact ⟨t, ht, hcounted.events hpos, hcounted.count⟩

end Sys2Proof.Machine
end

section
/-! PROOFS. 44_pid.md: the integrators (R102), the control output (R103 to R106), the independence of the lanes (R107), and
the gain schedule at the unit factor (R104). -/

namespace Sys2Proof.Machine

open Sys2Proof.Safety

/-! ### The integrators (R102) -/

/-- The integrator an ITERATE leaves, as the wrapped result of `integStep` with the `DT` of the same ITERATE. -/
theorem iterate_integ_toInt_eq_wrap32 (s : State) (a : Axis) : ((iterate s).integ.get a).toInt =
    wrap32 (integStep s.params (lowThrottle s.params s.inputs.thr) (s.integ.get a).toInt (s.inputs.err.get a).toInt
      (iterate s).dt.toInt) := by
  have hinteg := congrArg Prod.fst (iterate_pid s a)
  simp only [iterate_frame]
  exact (congrArg BitVec.toInt hinteg).trans (toWord_toInt _)

/-- With a well-formed instance the result of `integStep` is a 32-bit number: the decay wraps it, the clamp bounds it. -/
theorem wrap32_integStep {p : Params} (h : p.wf = true) (low : Bool) (i e dt : Int) :
    wrap32 (integStep p low i e dt) = integStep p low i e dt := by
  obtain ⟨-, ⟨hlimit, hlimit'⟩, -⟩ := Params.wf_facts h
  cases low with
  | true => exact wrap32_wrap32 _
  | false =>
    have hclamp := clamp_bounds (lo := -p.limit) (hi := p.limit) (i + fpmul p e dt) (by omega)
    exact wrap32_of_range (v := clamp (i + fpmul p e dt) (-p.limit) p.limit) (by omega) (by omega)

theorem iterate_integ_toInt {s : State} (h : s.params.wf = true) (a : Axis) : ((iterate s).integ.get a).toInt =
    integStep s.params (lowThrottle s.params s.inputs.thr) (s.integ.get a).toInt (s.inputs.err.get a).toInt
      (iterate s).dt.toInt := by
  rw [iterate_integ_toInt_eq_wrap32, wrap32_integStep h]

/-- Settles O31: the two branches of `integStep`. -/
theorem integratorStep : Obligations.IntegratorStep := fun s hwf => by
  refine ⟨iterate s, rfl, fun a => ?_⟩
  rw [iterate_integ_toInt hwf, ← lowThrottle_iff]
  exact ⟨fun hlow => if_pos hlow, fun hlow => if_neg hlow⟩

/-- The decay takes a number between 0 and `i` away from a 32-bit `i`, so nothing wraps. -/
theorem integStep_low_between {p : Params} (h : p.wf = true) (e dt : Int) {i : Int} (hi : -2147483648 ≤ i)
    (hi' : i ≤ 2147483647) :
    (0 ≤ i → 0 ≤ integStep p true i e dt ∧ integStep p true i e dt ≤ i) ∧
    (i < 0 → i ≤ integStep p true i e dt ∧ integStep p true i e dt ≤ 0) := by
  obtain ⟨-, -, -, ⟨halpha, halpha'⟩, -⟩ := Params.wf_facts h
  simp only [integStep, if_true, fpmul]
  have hbetween : (0 ≤ i ∧ 0 ≤ asr (i * p.decayAlpha) p.shift ∧ asr (i * p.decayAlpha) p.shift ≤ i) ∨
      (i < 0 ∧ i ≤ asr (i * p.decayAlpha) p.shift ∧ asr (i * p.decayAlpha) p.shift ≤ 0) := by
    rcases lt_or_ge i 0 with hsign | hsign
    · exact .inr ⟨hsign, asr_mul_between_of_nonpos hsign.le halpha halpha'⟩
    · exact .inl ⟨hsign, asr_mul_between_of_nonneg hsign halpha halpha'⟩
  generalize asr (i * p.decayAlpha) p.shift = d at hbetween ⊢
  rw [wrap32_of_range (v := d) (by omega) (by omega), wrap32_of_range (by omega) (by omega)]
  omega

/-- Settles O32 by `integStep_low_between`: a register is a 32-bit number. -/
theorem decayGoesTowardZero : Obligations.DecayGoesTowardZero := fun s hwf hlow => by
  refine ⟨iterate s, rfl, fun a => ?_⟩
  obtain ⟨hi, hi'⟩ := word_toInt_range (s.integ.get a)
  rw [iterate_integ_toInt hwf, (lowThrottle_iff s).2 hlow]
  exact integStep_low_between hwf _ _ hi hi'

/-! ### The control output (R103 to R106) -/

/-- The yaw sign leaves a 32-bit number. -/
theorem wrap32_yawSign_fpmul (p : Params) (invert : Bool) (a : Axis) (u0 gsm : Int) :
    wrap32 (yawSign invert a (fpmul p u0 gsm)) = yawSign invert a (fpmul p u0 gsm) := by
  unfold yawSign fpmul
  split <;> exact wrap32_wrap32 _

/-- The control output an ITERATE leaves, from the integrators and gains that it leaves. -/
theorem iterate_pidOut_toInt (s : State) (a : Axis) : ((iterate s).pidOut.get a).toInt =
    yawSign (yawInvert s.airframe) a (fpmul s.params
      (controlLaw s.params (s.inputs.err.get a).toInt (s.inputs.gyro.get a).toInt ((iterate s).integ.get a).toInt
        ((iterate s).act.kp.get a).toInt ((iterate s).act.ki.get a).toInt ((iterate s).act.kd.get a).toInt)
      (gainSchedule s.params (throttleOutput s.params s.inputs.thr s.idleOffset) s.gsf.toInt)) := by
  obtain ⟨hinteg, hout⟩ := Prod.ext_iff.1 (iterate_pid s a)
  dsimp only at hinteg hout
  rw [hinteg, hout]
  exact (toWord_toInt _).trans (wrap32_yawSign_fpmul ..)

/-- Settles O33 by `iterate_pidOut_toInt`, whose operations are the formulas of the rules. -/
theorem controlOutputPerAxis : Obligations.ControlOutputPerAxis := fun s => ⟨iterate s, rfl, iterate_pidOut_toInt s⟩

/-! ### The independence of the lanes (R107) -/

/-- Another error, gyro rate, integrator and gain on axis `b`. -/
def setLane (b : Axis) (term : GainTerm) (e g i k : Word) (s : State) : State :=
  { s with
    integ := s.integ.set b i
    act := s.act.set term b k
    inputs := { s.inputs with err := s.inputs.err.set b e, gyro := s.inputs.gyro.set b g } }

/-- A gain of another axis stays through an ITERATE: arming loads the presets, and without it the gains stay. -/
theorem iterate_act_setLane {s : State} {a b : Axis} (h : b ≠ a) (term t : GainTerm) (e g i k : Word) :
    (iterate (setLane b term e g i k s)).act.get t a = (iterate s).act.get t a := by
  by_cases ha : Arms s
  · have ha' : Arms (setLane b term e g i k s) := ha
    obtain ⟨hmode, hact⟩ := iterate_gains_of_arms ha
    obtain ⟨hmode', hact'⟩ := iterate_gains_of_arms ha'
    rw [hact, hact', hmode, hmode']
    rfl
  · have ha' : ¬ Arms (setLane b term e g i k s) := ha
    obtain ⟨-, hact⟩ := iterate_gains_of_not_arms ha
    obtain ⟨-, hact'⟩ := iterate_gains_of_not_arms ha'
    rw [hact, hact']
    exact (Gains.get_set ..).trans (if_neg fun hab => h hab.2.symm)

/-- The registers of another axis after an ITERATE stay. -/
theorem iterate_pid_setLane (s : State) {a b : Axis} (h : b ≠ a) (term : GainTerm) (e g i k : Word) :
    ((iterate (setLane b term e g i k s)).integ.get a, (iterate (setLane b term e g i k s)).pidOut.get a) =
      ((iterate s).integ.get a, (iterate s).pidOut.get a) := by
  have hact (t : GainTerm) := iterate_act_setLane (s := s) h term t e g i k
  have hkp := hact .kp
  have hki := hact .ki
  have hkd := hact .kd
  simp only [Gains.get] at hkp hki hkd
  rw [iterate_pid, iterate_pid, hkp, hki, hkd]
  simp only [setLane, tick_fields, Axes.get_set_of_ne _ _ h.symm]

/-- Settles O34 by `iterate_pid_setLane`. -/
theorem pidLanesIndependent : Obligations.PidLanesIndependent := fun s _ b e g i k term h =>
  ⟨iterate s, iterate (setLane b term e g i k s), rfl, rfl, Prod.ext_iff.1 (iterate_pid_setLane s h term e g i k)⟩

/-! ### The gain schedule (R104) -/

/-- `ONE` is the unit of `fpmul`. -/
theorem fpmul_one (p : Params) (v : Int) : fpmul p v (one p) = wrap32 v :=
  congrArg wrap32 (Int.mul_ediv_cancel v (one_pos p).ne')

/-- Settles O35: with the throttle output in `[0, ONE]`, no operation of the gain schedule wraps. -/
theorem gainScheduleLinearAtUnitFactor : Obligations.GainScheduleLinearAtUnitFactor := fun p thr idle hwf => by
  obtain ⟨hlo, hhi⟩ := throttleOutput_bounds p thr idle
  refine ⟨hlo, hhi, ?_⟩
  generalize throttleOutput p thr idle = t at hlo hhi
  have hone := Params.one_le_of_wf hwf
  have hhalf := Params.one_eq_two_half hwf
  rw [gainSchedule, fpmul_one, wrap32_wrap32, wrap32_of_range (v := t - half p) (by omega) (by omega),
    wrap32_of_range (by omega) (by omega)]
  omega

end Sys2Proof.Machine
end

section
/-! PROOFS. 44_pid.md: the invariant holds after reset and is kept by every command, step and run, which bounds the
integrators (R109). -/

namespace Sys2Proof.Machine

open Sys2Proof.Safety

/-! ### A command other than ITERATE keeps the invariant -/

/-- The clauses of the invariant about the transmitter and the last frequency. -/
structure TransmitterInv (s : State) : Prop where
  lines_idle : s.vtxCs = true ∧ s.vtxClk = false ∧ s.vtxData = false
  tx_idle : s.tx = none
  last_freq : s.lastFreq = 0#32 ∨
    (5725 ≤ s.lastFreq.toNat ∧ s.lastFreq.toNat ≤ 5875 ∧ (s.lastFreq.toNat - 5725) % 5 = 0)
  freq_result : s.freqResult = .sent ∨ s.freqResult = .unchanged → s.lastFreq ≠ 0#32

theorem transmitterInv_of_inv {s : State} (h : Inv s) : TransmitterInv s :=
  ⟨h.lines_idle, h.tx_idle, h.last_freq, h.freq_result⟩

theorem ne_zero_of_validFreq {f : Word} (h : validFreq f.toNat = true) : f ≠ 0#32 := by
  rintro rfl
  exact absurd h (by decide)

/-- A request is rejected, finds its frequency already sent, or is sent, which leaves the lines idle again. -/
theorem exec_keeps_transmitterInv {i : Instr} {s t : State} (hwf : s.params.wf = true) (hs : TransmitterInv s)
    (h : exec i s = .next t) : TransmitterInv t := by
  by_cases hi : i = .freqReq
  · subst hi
    obtain ⟨hlines, htx, hlast, hresult⟩ := hs
    rcases execFreqReq_cases hwf with ⟨-, e⟩ | ⟨hv, hsame, e⟩ | ⟨hv, -, e⟩ <;> cases e.symm.trans h
    · exact ⟨hlines, htx, hlast, by simp⟩
    · exact ⟨hlines, htx, hlast, fun _ => hsame ▸ ne_zero_of_validFreq hv⟩
    · exact ⟨⟨rfl, rfl, rfl⟩, rfl, .inr ((validFreq_iff _).1 hv), fun _ => ne_zero_of_validFreq hv⟩
  · obtain ⟨hlast, hcs, hclk, hdata, htx, hresult, -⟩ := exec_transmitter_frame hi h
    exact ⟨by rw [hcs, hclk, hdata]; exact hs.lines_idle, htx.trans hs.tx_idle, hlast ▸ hs.last_freq,
      by rw [hresult, hlast]; exact hs.freq_result⟩

/-- The reserved bits of the configuration registers are 0 (20_memory.md R47). -/
def ReservedZero (s : State) : Prop := s.airframe.toNat < 8 ∧ s.mixSigns.toNat < 4096

theorem cfgStore_reservedZero (v : Word) {s : State} (hs : ReservedZero s) (r : Reg) : ReservedZero (cfgStore v s r) := by
  obtain ⟨hair, hmix⟩ := hs
  cases r with
  | airframe => exact ⟨airframeStored_lt v, hmix⟩
  | mixSigns => exact ⟨hair, mixSignsStored_lt v⟩
  | _ => exact ⟨hair, hmix⟩

theorem exec_keeps_reservedZero {i : Instr} {s t : State} (hs : ReservedZero s) (h : exec i s = .next t) :
    ReservedZero t := by
  by_cases hi : ∃ addr, i = .cfgWrite addr
  · obtain ⟨addr, rfl⟩ := hi
    cases Host.Outcome.next.inj h
    rcases regWrite_cases addr s.inputs.din s with ⟨r, -, -, -, e⟩ | ⟨-, e⟩ <;> rw [e]
    · exact cfgStore_reservedZero _ hs r
    · exact hs
  · obtain ⟨-, hair, hmix, -⟩ := exec_config_frame (.inr fun addr e => hi ⟨addr, e⟩) h
    rwa [ReservedZero, hair, hmix]

/-- A command other than ITERATE keeps the invariant: it leaves the control loop, and a CFG_WRITE while armed is refused. -/
theorem exec_keeps_inv_of_ne_iterate {i : Instr} {s t : State} (hi : i ≠ .iterate) (hs : Inv s)
    (h : exec i s = .next t) : Inv t := by
  obtain ⟨hparams, harm, hmode, hact, hinteg, -, -, hdt, hstate, hcount, -, hmotor, hlow, -, hlock, -, hinputs, -⟩ :=
    exec_control_frame hi h
  obtain ⟨hair, hmix⟩ := exec_keeps_reservedZero ⟨hs.airframe_reserved, hs.mixSigns_reserved⟩ h
  obtain ⟨hlines, htx, hlast, hresult⟩ := exec_keeps_transmitterInv hs.params_wf (transmitterInv_of_inv hs) h
  exact {
    params_wf := by rw [hparams]; exact hs.params_wf
    integ_bounded := by rw [hparams, hinteg]; exact hs.integ_bounded
    dt_bounded := by rw [hparams, hdt]; exact hs.dt_bounded
    motor_bounded := by rw [hparams, hmotor]; exact hs.motor_bounded
    motor_idle := by rw [hparams, harm, hlow, hmotor]; exact hs.motor_idle
    gest_count := by rw [hparams, hcount]; exact hs.gest_count
    gest_start := by rw [hstate, hcount]; exact hs.gest_start
    gest_armed := by rw [harm, hstate]; exact hs.gest_armed
    armed_locked := by rw [harm, hlock]; exact hs.armed_locked
    gains_loaded := fun harmed => by
      rw [harm] at harmed
      obtain ⟨hpreset, -⟩ := exec_config_frame (.inl (hs.armed_locked harmed)) h
      rw [hact, hmode, hpreset]
      exact hs.gains_loaded harmed
    airframe_reserved := hair
    mixSigns_reserved := hmix
    lines_idle := hlines
    tx_idle := htx
    last_freq := hlast
    aux_count := by rw [hparams, hinputs]; exact hs.aux_count
    freq_result := hresult }

/-! ### An ITERATE keeps the invariant -/

/-- The invariant of the working values of a gesture step: a count of at most `n` (`GESTURE_N`, which fires), 0 exactly in
Start. -/
def GestWork.CountsUpTo (n : Nat) (g : GestWork) : Prop := g.count ≤ n ∧ (g.state = .start ↔ g.count = 0)

/-- A sample adds at most one crossing, and a crossing is on a side. -/
theorem gestCross_countsUpTo {n : Nat} (hn : 0 < n) {side : Option GestState} (hside : side ≠ some .start) (now : Word)
    {g : GestWork} (hlt : g.count < n) (hstart : g.state = .start ↔ g.count = 0) :
    (gestCross side now g).CountsUpTo n := by
  cases side with
  | none => exact ⟨hlt.le, hstart⟩
  | some sd =>
    have hsd : sd ≠ .start := fun e => hside (congrArg some e)
    simp only [gestCross]
    split_ifs with hst hne
    · exact ⟨hn, by simp [hsd]⟩
    · exact ⟨hlt, by simp [hsd]⟩
    · exact ⟨hlt.le, hstart⟩

/-- The working values of a gesture step settle at a count of at most `GESTURE_N`. -/
theorem gestSettled_countsUpTo {s : State} (hs : Inv s) : (gestSettled s).CountsUpTo s.params.gestureN := by
  obtain ⟨-, -, -, -, hT, -, ⟨hN, -⟩, -⟩ := Params.wf_facts hs.params_wf
  have hside : gestSide s.params (watched s.params s.inputs) ≠ some .start := fun e =>
    onSide_ne_start ((gestSide_eq_some hT).1 e) rfl
  unfold gestSettled
  split
  · exact gestCross_countsUpTo hN hside _ hN (by simp)
  · exact gestCross_countsUpTo hN hside _ hs.gest_count (hs.gest_start.trans BitVec.toNat_inj.symm)

/-- The gesture detector after an ITERATE: a count below `GESTURE_N`, 0 exactly in Start. -/
theorem iterate_keeps_gestCount {s : State} (hs : Inv s) :
    (iterate s).gestCount.toNat < s.params.gestureN ∧
    ((iterate s).gestState = .start ↔ (iterate s).gestCount = 0#3) := by
  obtain ⟨-, -, -, -, -, -, ⟨hN, -⟩, -⟩ := Params.wf_facts hs.params_wf
  by_cases ha : Arms s
  · obtain ⟨hstate, hcount, -⟩ := iterate_gesture_of_arms ha
    rw [hstate, hcount]
    exact ⟨hN, by simp⟩
  by_cases hruns : GestureRuns s
  · obtain ⟨hle, hstart⟩ := gestSettled_countsUpTo hs
    by_cases hfire : (gestSettled s).count = s.params.gestureN
    · obtain ⟨hstate, hcount, -⟩ := (iterate_gesture hruns).2 hfire
      rw [hstate, hcount]
      exact ⟨hN, by simp⟩
    · obtain ⟨hstate, hcount, -⟩ := (iterate_gesture hruns).1 hfire
      have hlt : (gestSettled s).count < s.params.gestureN := by omega
      have hfits := toNat_ofNat_of_lt_gestureN hs.params_wf hlt
      rw [hstate, hcount, hstart, ← BitVec.toNat_inj, hfits]
      exact ⟨hlt, Iff.rfl⟩
  · obtain ⟨hstate, hcount, -⟩ := iterate_gesture_of_not_runs hruns ha
    rw [hstate, hcount]
    exact ⟨hs.gest_count, hs.gest_start⟩

/-- Only the arm transition leads out of Disarmed (42_arming.md R94). -/
theorem armed_of_iterate_armed {s : State} (ha : ¬ Arms s) (h : (iterate s).armState ≠ .disarmed) :
    s.armState ≠ .disarmed := by
  rcases iterate_edges s with e | ⟨ha', -⟩ | ⟨⟨hs, -⟩, -⟩ | ⟨-, e, -⟩
  · exact e ▸ h
  · exact absurd ha' ha
  · simp [hs]
  · exact absurd e h

/-- While armed after an ITERATE, the detector is in Start: arming resets it, and it does not run while armed. -/
theorem iterate_keeps_gestStart_of_armed {s : State} (hs : Inv s) (h : (iterate s).armState ≠ .disarmed) :
    (iterate s).gestState = .start := by
  by_cases ha : Arms s
  · exact (iterate_gesture_of_arms ha).1
  · have hruns : ¬ GestureRuns s := fun hruns => h ((iterate_armState s).trans ((gestureRuns_iff s).1 hruns).1)
    obtain ⟨hstate, -⟩ := iterate_gesture_of_not_runs hruns ha
    exact hstate.trans (hs.gest_armed (armed_of_iterate_armed ha h))

/-- While armed after an ITERATE, the active gains are the preset of the mode: arming loads it, and no ITERATE writes it. -/
theorem iterate_keeps_gains_of_armed {s : State} (hs : Inv s) (h : (iterate s).armState ≠ .disarmed) :
    (iterate s).act = s.preset.get (iterate s).flightMode := by
  by_cases ha : Arms s
  · exact (iterate_gains_of_arms ha).2
  · obtain ⟨hmode, hact⟩ := iterate_gains_of_not_arms ha
    rw [hact, hmode]
    exact hs.gains_loaded (armed_of_iterate_armed ha h)

/-- The motors of an ITERATE, read as numbers. -/
theorem iterate_motor_toInt {s : State} (h : s.params.wf = true) (m : Fin 4) : ((iterate s).motor.get m).toInt =
    motorCommand s.params ((iterate s).armState == .armedStarted && !lowThrottle s.params s.inputs.thr)
      (mixAcc s.mixSigns (throttleOutput s.params s.inputs.thr s.idleOffset) (iterate s).pidOut m) := by
  rw [iterate_motor, motorCommand_toInt h]

/-- An ITERATE that ends not started or with low throttle leaves each motor at its floor (45_mixer.md R114). -/
theorem iterate_motor_toInt_of_closed {s : State} (h : s.params.wf = true)
    (hclosed : (iterate s).armState ≠ .armedStarted ∨ (iterate s).lowThr = true) (m : Fin 4) :
    ((iterate s).motor.get m).toInt = s.params.minMotorOutput := by
  rw [iterate_motor_toInt h]
  refine if_neg ?_
  simpa [imp_iff_not_or] using hclosed

theorem iterate_keeps_inv {s : State} (hs : Inv s) : Inv (iterate s) := by
  have hwf := hs.params_wf
  obtain ⟨hcount, hstart⟩ := iterate_keeps_gestCount hs
  exact {
    params_wf := by simpa using hwf
    integ_bounded := fun a => by
      rw [iterate_integ_toInt hwf]
      simpa using integStep_bounds hwf _ _ _ (hs.integ_bounded a)
    dt_bounded := by
      rw [iterate_dt_toInt hwf]
      simpa using dtOf_bounds hwf (elapsedUs_nonneg _ _)
    motor_bounded := fun m => by
      rw [iterate_motor_toInt hwf]
      simpa [one] using motorCommand_bounds hwf _ _
    motor_idle := fun hclosed m => by simpa using iterate_motor_toInt_of_closed hwf hclosed m
    gest_count := by simpa using hcount
    gest_start := hstart
    gest_armed := iterate_keeps_gestStart_of_armed hs
    armed_locked := by simp
    gains_loaded := fun h => by simpa using iterate_keeps_gains_of_armed hs h
    airframe_reserved := by simpa using hs.airframe_reserved
    mixSigns_reserved := by simpa using hs.mixSigns_reserved
    lines_idle := by simpa using hs.lines_idle
    tx_idle := by simpa using hs.tx_idle
    last_freq := by simpa using hs.last_freq
    aux_count := by simpa using hs.aux_count
    freq_result := by simpa using hs.freq_result }

/-! ### Every step and run keeps the invariant (R109) -/

/-- Every command keeps the invariant. -/
theorem exec_keeps_inv {i : Instr} {s t : State} (hs : Inv s) (h : exec i s = .next t) : Inv t := by
  by_cases hi : i = .iterate
  · subst hi
    cases Host.Outcome.next.inj h
    exact iterate_keeps_inv hs
  · exact exec_keeps_inv_of_ne_iterate hi hs h

/-- The reset table meets the invariant (70_reset_and_hazards.md R143). -/
theorem resetWith_inv {p : Params} (h : p.wf = true) (now : Word) (host : List HostAct) :
    Inv (State.resetWith p now host) := by
  obtain ⟨-, ⟨hlimit, -⟩, ⟨hmin, hmin'⟩, -, -, -, ⟨hN, -⟩, -⟩ := Params.wf_facts h
  have hmotor (m : Fin 4) : ((State.resetWith p now host).motor.get m).toInt = p.minMotorOutput := by
    rw [resetWith_motor, minMotor_toInt h]
  exact {
    params_wf := h
    integ_bounded := fun a => by
      have hzero : (State.resetWith p now host).integ.get a = 0#32 := by cases a <;> rfl
      rw [hzero]
      exact ⟨neg_nonpos.2 hlimit, hlimit⟩
    dt_bounded := ⟨le_rfl, (Params.dtMax_range h).1⟩
    motor_bounded := fun m => by rw [hmotor]; exact ⟨le_rfl, hmin'⟩
    motor_idle := fun _ => hmotor
    gest_count := hN
    gest_start := ⟨fun _ => rfl, fun _ => rfl⟩
    gest_armed := fun _ => rfl
    armed_locked := fun harmed => absurd rfl harmed
    gains_loaded := fun harmed => absurd rfl harmed
    airframe_reserved := (by decide : (0x00000001#32).toNat < 8)
    mixSigns_reserved := (by decide : (0x00000C1D#32).toNat < 4096)
    lines_idle := ⟨rfl, rfl, rfl⟩
    tx_idle := rfl
    last_freq := .inl rfl
    aux_count := List.length_replicate
    freq_result := by rintro (e | e) <;> cases e }

/-- The start of a command samples as many auxiliary channels as the instance has. -/
theorem beginCommand_inv {s : State} (hs : Inv s) (inp : Inputs) (rest : List HostAct) :
    Inv (beginCommand inp rest s) :=
  { hs with aux_count := length_sampleAux _ _ }

theorem setIllegalCmd_inv {s : State} (hs : Inv s) : Inv (setIllegalCmd s) := { hs with }

/-- Every step keeps the invariant: the state is held, reset, or has a command run or refused. -/
theorem step_keeps_inv {s t : State} (hs : Inv s) (h : step s = .next t) : Inv t := by
  obtain ⟨hwf, ⟨-, rfl⟩ | ⟨now, rest, -, rfl⟩ | ⟨inp, rest, i, -, -, he⟩ | ⟨inp, rest, r, -, -, rfl⟩⟩ := step_cases h
  · exact hs
  · exact resetWith_inv hwf now rest
  · exact exec_keeps_inv (beginCommand_inv hs inp rest) he
  · exact setIllegalCmd_inv (beginCommand_inv hs inp rest)

/-- Settles O51 by `step_keeps_inv`; no step changes the instance. -/
theorem stepKeepsInvariant : Obligations.StepKeepsInvariant := fun _ _ hs h => ⟨step_keeps_inv hs h, step_params h⟩

/-- A run from a state that meets the invariant goes on, by induction on its steps, and keeps it and the instance. -/
theorem run_keeps_inv (k : Nat) {s : State} (hs : Inv s) :
    ∃ t, Host.Core.run Sys2Proof.core k s = .next t ∧ Inv t ∧ t.params = s.params := by
  induction k generalizing s with
  | zero => exact ⟨s, rfl, hs, rfl⟩
  | succ k ih =>
    obtain ⟨u, hu⟩ := step_total hs.params_wf
    obtain ⟨t, ht, hinv, hparams⟩ := ih (step_keeps_inv hs hu)
    exact ⟨t, (run_succ hu).trans ht, hinv, hparams.trans (step_params hu)⟩

/-- Settles O52: a run from reset keeps the invariant, which bounds the integrators. -/
theorem integratorsBoundedInEveryRun : Obligations.IntegratorsBoundedInEveryRun := fun p now host k hwf => by
  obtain ⟨t, ht, hinv, hparams⟩ := run_keeps_inv k (resetWith_inv hwf now host)
  have hp : t.params = p := hparams
  exact ⟨t, ht, hp ▸ hinv.integ_bounded⟩

end Sys2Proof.Machine
end

section
/-! PROOFS. 45_mixer.md: the motors of an ITERATE (R112 to R114), their value at zero PID outputs (R117), and their range
and floor along every run (R115, R116). -/

namespace Sys2Proof.Machine

open Sys2Proof.Safety

/-! ### The mix and the gate (R112 to R114) -/

/-- An ITERATE that ends started, without low throttle, leaves each motor at its clamped mix (R113). -/
theorem iterate_motor_toInt_of_open {s : State} (h : s.params.wf = true)
    (hstarted : (iterate s).armState = .armedStarted) (hlow : ¬ Low s) (m : Fin 4) : ((iterate s).motor.get m).toInt =
      clamp (mixAcc s.mixSigns (throttleOutput s.params s.inputs.thr s.idleOffset) (iterate s).pidOut m)
        s.params.minMotorOutput (one s.params) := by
  rw [← lowThrottle_iff] at hlow
  rw [iterate_motor_toInt h]
  exact if_pos (by simp [hstarted, hlow])

/-- Settles O36: `iterate_motor_toInt_of_open` and `iterate_motor_toInt_of_closed`, with `mixAcc` written out. -/
theorem motorsFollowMixAndGate : Obligations.MotorsFollowMixAndGate := fun s hwf => by
  refine ⟨iterate s, rfl, fun m => ⟨fun ⟨hstarted, hlow⟩ => ?_, fun hclosed => ?_⟩⟩
  · exact iterate_motor_toInt_of_open hwf hstarted hlow m
  · refine iterate_motor_toInt_of_closed hwf (hclosed.imp_right fun hlow => ?_) m
    simpa [lowThrottle_iff] using hlow

/-! ### Zero PID outputs (R117) -/

/-- With zero PID outputs the mix of every motor is the throttle output, whatever the signs. -/
theorem mixAcc_of_pidOut_zero (mixSigns : Word) (thrOut : Int) {pidOut : Axes Word} (h : ∀ a, pidOut.get a = 0#32)
    (m : Fin 4) : mixAcc mixSigns thrOut pidOut m = thrOut := by
  have hroll : pidOut.roll = 0#32 := h .roll
  have hpitch : pidOut.pitch = 0#32 := h .pitch
  have hyaw : pidOut.yaw = 0#32 := h .yaw
  simp [mixAcc, hroll, hpitch, hyaw]

/-- With the reference parameters, a throttle that is not low and an idle offset of at least -4096 give a throttle output of
at least the motor floor: (-49152)/2 + 32768 - 4096 = 4096. -/
theorem minMotorOutput_le_throttleOutput_reference {tDwell nAux : Nat} {thr idle : Word} (hthr : -49152 ≤ thr.toInt)
    (hidle : -4096 ≤ idle.toInt) : (Params.referenceWith tDwell nAux).minMotorOutput ≤
      throttleOutput (Params.referenceWith tDwell nAux) thr idle := by
  have hmin : (Params.referenceWith tDwell nAux).minMotorOutput = 4096 := rfl
  have hone : one (Params.referenceWith tDwell nAux) = 65536 := rfl
  have hhalf : half (Params.referenceWith tDwell nAux) = 32768 := rfl
  simp only [throttleOutput, hmin, hone, hhalf, asr, clamp]
  split_ifs <;> omega

/-- Settles O37: the mix is the throttle output, and with the reference parameters it lies in the range of the clamp. -/
theorem equalMotorsAtZeroPid : Obligations.EqualMotorsAtZeroPid := fun s t hwf h hpid hstarted hlow => by
  cases Host.Outcome.next.inj h
  have hmotor (m : Fin 4) : ((iterate s).motor.get m).toInt =
      clamp (throttleOutput s.params s.inputs.thr s.idleOffset) s.params.minMotorOutput (one s.params) := by
    rw [iterate_motor_toInt_of_open hwf hstarted hlow, mixAcc_of_pidOut_zero _ _ hpid]
  refine ⟨hmotor, fun tDwell nAux hp hidle m => ?_⟩
  rw [Low, hp] at hlow
  rw [hmotor, hp]
  exact clamp_of_mem (minMotorOutput_le_throttleOutput_reference (not_lt.1 hlow) hidle) (throttleOutput_bounds ..).2

/-! ### Every run (R115, R116) -/

/-- Settles O53: a run from reset keeps the invariant, which bounds the motors and holds them at the floor. -/
theorem motorsSafeInEveryRun : Obligations.MotorsSafeInEveryRun := fun p now host k hwf => by
  obtain ⟨t, ht, hinv, hparams⟩ := run_keeps_inv k (resetWith_inv hwf now host)
  have hp : t.params = p := hparams
  subst hp
  refine ⟨t, ht, fun m => ?_⟩
  obtain ⟨hfloor, hceil⟩ := hinv.motor_bounded m
  exact ⟨hfloor, by exact_mod_cast hceil, fun hidle => hinv.motor_idle hidle m⟩

end Sys2Proof.Machine
end

section
/-! PROOFS. 46_freq_encoder.md: the fields of a channel (R120, R121), the printed table (R123), the least duration of a
transmission (R126), and the three outcomes of FREQ_REQ (R128), alone and twice in a row (R129). -/

namespace Sys2Proof.Machine

open Sys2Proof.Safety

/-! ### The fields and the printed table (R119 to R123) -/

/-- A valid frequency is the frequency of a channel, found by its index. -/
theorem channelFreq_channelIndex {f : Nat} (h : 5725 ≤ f) (h' : (f - 5725) % 5 = 0) :
    channelFreq (channelIndex f) = f := by
  unfold channelFreq channelIndex
  omega

theorem fieldA_cast (n : Nat) : (fieldA n : Int) = (21 - 3 * (n : Int)) % 128 :=
  Int.toNat_of_nonneg (Int.emod_nonneg _ (by decide))

/-- Settles O40: three times the index is `3 (f - 5725) / 5`, and field B branches on the frequency of the channel. -/
theorem fieldsByTheSourceFormulas : Obligations.FieldsByTheSourceFormulas := fun f hlo _ hmod => by
  have hf : channelFreq (channelIndex f) = f := channelFreq_channelIndex hlo hmod
  change (fieldA (channelIndex f) : Int) = _ ∧ fieldB (channelIndex f) = _
  constructor
  · have h3 : 3 * ((f : Int) - 5725) / 5 = 3 * (channelIndex f : Int) := by
      unfold channelFreq at hf
      omega
    rw [fieldA_cast, h3]
  · rw [fieldB, fieldBRaw, hf]
    simp only [channelIndex, Nat.mul_comm 2]

/-- The table as printed in R123 is the closed form of R122. -/
theorem printedFrameTable_eq : Config.printedFrameTable = closedFormTable := by decide

/-- Settles O42. -/
theorem printedTableIsClosedForm : Obligations.PrintedTableIsClosedForm :=
  (eq_closedFormTable_iff _).1 printedFrameTable_eq

/-! ### The outcomes of FREQ_REQ (R128) -/

theorem exec_freqReq_of_invalid {s : State} (hv : ¬ validFreq s.inputs.din.toNat = true) :
    exec .freqReq s = .next { s with freqResult := .rejected } := by
  rcases execFreqReq_shape s with ⟨-, e⟩ | ⟨hv', -⟩ | ⟨hv', -⟩
  · exact e
  all_goals exact absurd hv' hv

theorem exec_freqReq_of_same {s : State} (hv : validFreq s.inputs.din.toNat = true)
    (hsame : s.inputs.din = s.lastFreq) : exec .freqReq s = .next { s with freqResult := .unchanged } := by
  rcases execFreqReq_shape s with ⟨hv', -⟩ | ⟨-, -, e⟩ | ⟨-, hnew, -⟩
  · simp [hv] at hv'
  · exact e
  · exact absurd hsame hnew

theorem exec_freqReq_of_new {s : State} (hwf : s.params.wf = true) (hv : validFreq s.inputs.din.toNat = true)
    (hnew : s.inputs.din ≠ s.lastFreq) :
    exec .freqReq s = .next { s with
      freqResult := .sent
      lastFreq := s.inputs.din
      tx := none
      vtxCs := true
      vtxClk := false
      vtxData := false
      waveform := s.waveform ++ frameWave (frameOf (channelIndex s.inputs.din.toNat)) } := by
  rcases execFreqReq_cases hwf with ⟨hv', -⟩ | ⟨-, hsame, -⟩ | ⟨-, -, e⟩
  · simp [hv] at hv'
  · exact absurd hsame hnew
  · exact e

/-- Settles O39, one lemma for each outcome. -/
theorem freqRequestOutcomes : Obligations.FreqRequestOutcomes := by
  refine ⟨by decide, fun s hwf => ⟨fun hv => ?_, fun hlo hhi hmod => ?_⟩⟩
  · exact exec_freqReq_of_invalid (mt (validFreq_iff _).1 hv)
  · have hv := (validFreq_iff _).2 ⟨hlo, hhi, hmod⟩
    exact ⟨exec_freqReq_of_same hv, exec_freqReq_of_new hwf hv⟩

/-! ### Two requests in a row (R129) -/

/-- A step on FREQ_REQ with a valid frequency: that frequency is the last one sent afterwards, and the frame is emitted
only if it was not before. -/
theorem step_freqReq_of_valid {s : State} {inp : Inputs} {rest : List HostAct} (hwf : s.params.wf = true)
    (hh : s.host = .command inp :: rest) (hcmd : inp.cmd = 0x00000004#32) (hv : validFreq inp.din.toNat = true) :
    ∃ t, step s = .next t ∧ t.lastFreq = inp.din ∧
      t.waveform = (if inp.din = s.lastFreq then [] else frameWave (frameOf (channelIndex inp.din.toNat))) ∧
      t.freqResult = (if inp.din = s.lastFreq then .unchanged else .sent) := by
  have hd : decode inp.cmd = .instr .freqReq := by rw [hcmd]; decide
  have hwf' : (beginCommand inp rest s).params.wf = true := by simpa using hwf
  rw [step_of_instr hwf hh hd]
  by_cases hsame : inp.din = s.lastFreq
  · exact ⟨_, exec_freqReq_of_same hv hsame, hsame.symm, by simp [hsame], by simp [hsame]⟩
  · exact ⟨_, exec_freqReq_of_new hwf' hv hsame, rfl, by simp [hsame], by simp [hsame]⟩

/-- Settles O43: the first step leaves the frequency as the last one sent, so the second finds it unchanged. -/
theorem sameFrequencyTransmitsOnce : Obligations.SameFrequencyTransmitsOnce :=
  fun s i1 i2 rest hwf hh hcmd1 hcmd2 hdin hlo hhi hmod => by
    have hv : validFreq i1.din.toNat = true := (validFreq_iff _).2 ⟨hlo, hhi, hmod⟩
    obtain ⟨t1, ht1, hlast1, hwave1, -⟩ := step_freqReq_of_valid hwf hh hcmd1 hv
    have hwf1 : t1.params.wf = true := by rw [step_params ht1, hwf]
    have hh1 : t1.host = .command i2 :: rest := by rw [step_host ht1, hh, List.tail_cons]
    obtain ⟨t2, ht2, hlast2, hwave2, hresult2⟩ := step_freqReq_of_valid hwf1 hh1 hcmd2 (hdin ▸ hv)
    have hsame : i2.din = t1.lastFreq := hdin.trans hlast1.symm
    rw [if_pos hsame] at hwave2 hresult2
    exact ⟨t1, t2, ht1, ht2, hwave1, hlast1, hwave2, hresult2, hlast2.trans hdin⟩

/-! ### The least duration of a transmission (R126) -/

theorem minDuration_append (d : Nat) (l l' : List WaveElem) :
    minDuration d (l ++ l') = minDuration d l + minDuration d l' := by
  induction l with
  | nil => simp [minDuration]
  | cons e l ih => cases e <;> simp [minDuration, ih, Nat.add_assoc]

/-- A slot waits twice, whatever its bit. -/
theorem minDuration_flatMap_slotWave (d : Nat) (bit : Nat → Bool) (l : List Nat) :
    minDuration d (l.flatMap fun t => slotWave (bit t)) = l.length * (2 * d) := by
  induction l with
  | nil => simp [minDuration]
  | cons t l ih =>
    rw [List.flatMap_cons, minDuration_append, ih]
    simp only [slotWave, minDuration, List.length_cons]
    ring

/-- 25 slots of two waits each; driving chip-select takes no wait. -/
theorem minDuration_frameWave (d : Nat) (f : Frame) : minDuration d (frameWave f) = 50 * d := by
  rw [frameWave, minDuration_append, minDuration_append, minDuration_flatMap_slotWave, List.length_range]
  simp only [minDuration]
  ring

/-- Settles O45: only the sent outcome appends a waveform, the one of a frame. -/
theorem freqRequestDwellTime : Obligations.FreqRequestDwellTime := fun s hwf => by
  rcases execFreqReq_cases hwf with ⟨-, e⟩ | ⟨-, -, e⟩ | ⟨-, -, e⟩
  · exact ⟨_, e, by simp, fun _ => rfl⟩
  · exact ⟨_, e, by simp, fun _ => rfl⟩
  · exact ⟨_, e, fun _ => by rw [minDuration_append, minDuration_frameWave], by simp⟩

end Sys2Proof.Machine
end

section
/-! PROOFS. 60_exceptions.md: every step and command completes (R130), the sticky bits stay (R131), and a silent host holds
the state (R142). -/

namespace Sys2Proof.Machine

/-- Settles O7 by `step_total` and `exec_total`. -/
theorem everyStepAndCommandCompletes : Obligations.EveryStepAndCommandCompletes := ⟨fun _ => step_total, exec_total⟩

/-! ### The sticky bits (R131) -/

/-- The sticky bits of `s` that are set are set in `t` too. -/
def KeepsSticky (s t : State) : Prop := (s.cfgErr = true → t.cfgErr = true) ∧ (s.illegalCmd = true → t.illegalCmd = true)

theorem KeepsSticky.of_eq {s t : State} (hcfg : t.cfgErr = s.cfgErr) (hill : t.illegalCmd = s.illegalCmd) :
    KeepsSticky s t := ⟨hcfg.trans, hill.trans⟩

theorem keepsSticky_setCfgErr (s : State) : KeepsSticky s (setCfgErr s) := ⟨fun _ => rfl, id⟩

theorem keepsSticky_setIllegalCmd (s : State) : KeepsSticky s (setIllegalCmd s) := ⟨id, fun _ => rfl⟩

/-- Only CLR_STATUS clears a sticky bit: a refused access of the register space sets `CFG_ERR`, and nothing else writes
either of them. -/
theorem exec_keepsSticky {i : Instr} {s t : State} (hi : i ≠ .clrStatus) (h : exec i s = .next t) : KeepsSticky s t := by
  cases i with
  | nop => cases h; exact .of_eq rfl rfl
  | cfgWrite addr =>
    cases Host.Outcome.next.inj h
    rcases regWrite_cases addr s.inputs.din s with ⟨r, -, -, -, e⟩ | ⟨-, e⟩ <;> rw [e]
    · cases r <;> exact .of_eq rfl rfl
    · exact keepsSticky_setCfgErr s
  | cfgRead addr =>
    rcases execCfgRead_cases addr s with ⟨r, -, e⟩ | ⟨-, e⟩ <;> cases e.symm.trans h
    · exact .of_eq rfl rfl
    · exact ⟨fun _ => rfl, id⟩
  | iterate => cases h; exact .of_eq (by simp) (by simp)
  | freqReq =>
    rcases execFreqReq_shape s with ⟨-, e⟩ | ⟨-, -, e⟩ | ⟨-, -, f, -, e⟩ <;> cases e.symm.trans h <;> exact .of_eq rfl rfl
  | clrStatus => exact absurd rfl hi

/-- Settles O49: the start of a command writes neither bit, then `exec_keepsSticky` or the refusal of an illegal word. -/
theorem stickyBitsStay : Obligations.StickyBitsStay := fun s t h hreset hclr => by
  change KeepsSticky s t
  obtain ⟨-, ⟨-, rfl⟩ | ⟨now, rest, hh, -⟩ | ⟨inp, rest, i, hh, hd, he⟩ | ⟨inp, rest, r, -, -, rfl⟩⟩ := step_cases h
  · exact .of_eq rfl rfl
  · exact absurd hh (hreset now rest)
  · have hi : i ≠ .clrStatus := fun e => hclr inp rest hh (encode_of_decode (e ▸ hd)).symm
    exact exec_keepsSticky (s := beginCommand inp rest s) hi he
  · exact keepsSticky_setIllegalCmd (beginCommand inp rest s)

/-! ### A silent host (R142) -/

/-- Settles O9: the arm of a step with nothing from the host. -/
theorem silentHostHoldsState : Obligations.SilentHostHoldsState := fun s hwf hh => by
  simp only [step, hwf, hh, if_true, holdState]

end Sys2Proof.Machine
end

section
/-! PROOFS. 70_reset_and_hazards.md: the reset table (R143), and the first request after a reset (R144). -/

namespace Sys2Proof.Machine

open Sys2Proof.Safety

/-! ### The reset table (R143) -/

theorem step_of_reset {s : State} {now : Word} {rest : List HostAct} (hwf : s.params.wf = true)
    (hh : s.host = .reset now :: rest) : step s = .next (State.resetWith s.params now rest) := by
  simp only [step, hwf, hh, if_true, applyReset]

theorem axes_get_const {α : Type} (x : α) (a : Axis) : (Axes.const x).get a = x := by
  cases a <;> rfl

theorem gains_get_zero (t : GainTerm) (a : Axis) : Gains.zero.get t a = 0#32 := by
  cases t <;> exact axes_get_const _ a

/-- After a reset every field of `STATUS` has code 0 (10_state.md R35). -/
theorem statusWord_resetWith (p : Params) (now : Word) (host : List HostAct) :
    statusWord (State.resetWith p now host) = 0x00000000#32 := by
  simp only [statusWord, State.resetWith]
  decide

/-- `ONE` fits a word in every well-formed instance. -/
theorem one_toInt {p : Params} (h : p.wf = true) : (toWord (one p)).toInt = 2 ^ p.shift := by
  have hpos := one_pos p
  have hle := Params.one_le_of_wf h
  rw [toWord_toInt_of_range (by omega) (by omega), one]
  norm_num

/-- Settles O10: a step on a reset answers the reset table, whose motors and `GSF` hold parameters that fit a word. -/
theorem resetSetsEveryRegister : Obligations.ResetSetsEveryRegister := fun s now rest hwf hh => by
  have hmotor (m : Fin 4) : ((State.resetWith s.params now rest).motor.get m).toInt = s.params.minMotorOutput := by
    rw [resetWith_motor, minMotor_toInt hwf]
  have hpreset (md : FlightMode) (g : GainTerm) (a : Axis) :
      ((State.resetWith s.params now rest).preset.get md).get g a = 0#32 := by
    cases md <;> exact gains_get_zero g a
  exact ⟨_, step_of_reset hwf hh, rfl, rfl, gains_get_zero,
    fun a => ⟨axes_get_const _ a, axes_get_const _ a⟩, rfl, rfl, rfl, rfl, rfl, hmotor, rfl, rfl, rfl, rfl, rfl, hpreset,
    rfl, rfl, rfl, one_toInt hwf, statusWord_resetWith .., rfl, rfl, rfl⟩

/-- Settles O50 by `resetWith_inv`; the reference instance is well-formed whatever its two OPEN parameters are. -/
theorem resetMeetsInvariant : Obligations.ResetMeetsInvariant :=
  ⟨fun _ now host h => resetWith_inv h now host, resetWith_inv (Params.referenceWith_wf _ _) _ _⟩

/-! ### The first request after a reset (R144) -/

/-- No frequency was sent since the last reset, the lines are idle, and the last action emitted no waveform. -/
structure NothingSent (s : State) : Prop where
  waveform : s.waveform = []
  lastFreq : s.lastFreq = 0#32
  vtxCs : s.vtxCs = true
  vtxClk : s.vtxClk = false
  vtxData : s.vtxData = false

theorem resetWith_nothingSent (p : Params) (now : Word) (host : List HostAct) :
    NothingSent (State.resetWith p now host) := ⟨rfl, rfl, rfl, rfl, rfl⟩

theorem beginCommand_nothingSent {s : State} (hs : NothingSent s) (inp : Inputs) (rest : List HostAct) :
    NothingSent (beginCommand inp rest s) := { hs with waveform := rfl }

/-- A command other than a valid FREQ_REQ sends nothing: an invalid one is rejected, and no other command writes a register
of the transmitter. -/
theorem exec_keeps_nothingSent {i : Instr} {s t : State} (hs : NothingSent s)
    (hi : i = .freqReq → ¬ validFreq s.inputs.din.toNat = true) (h : exec i s = .next t) : NothingSent t := by
  by_cases hreq : i = .freqReq
  · have hv := hi hreq
    subst hreq
    cases (exec_freqReq_of_invalid hv).symm.trans h
    exact { hs with }
  · obtain ⟨hlast, hcs, hclk, hdata, -, -, hwave⟩ := exec_transmitter_frame hreq h
    exact ⟨hwave.trans hs.waveform, hlast.trans hs.lastFreq, hcs.trans hs.vtxCs, hclk.trans hs.vtxClk,
      hdata.trans hs.vtxData⟩

/-- A command that is no valid FREQ_REQ (46_freq_encoder.md R128). -/
def NoValidRequest (inp : Inputs) : Prop := inp.cmd = 0x00000004#32 → ¬ validFreq inp.din.toNat = true

theorem step_keeps_nothingSent {s t : State} {inp : Inputs} {rest : List HostAct} (hs : NothingSent s)
    (hh : s.host = .command inp :: rest) (hinp : NoValidRequest inp) (h : step s = .next t) : NothingSent t := by
  have hb := beginCommand_nothingSent hs inp rest
  rcases step_command_cases hh h with ⟨i, hd, he⟩ | ⟨r, -, rfl⟩
  · exact exec_keeps_nothingSent hb (fun hi => hinp (encode_of_decode (hi ▸ hd)).symm) he
  · exact { hb with }

/-- A run over the first `k` of the commands `mid`, none of them a valid FREQ_REQ, sends nothing and leaves the others. -/
theorem run_keeps_nothingSent {mid : List Inputs} (hmid : ∀ c ∈ mid, NoValidRequest c) {rest : List HostAct} {s : State}
    (hs : NothingSent s) (hwf : s.params.wf = true) (hh : s.host = mid.map HostAct.command ++ rest) {k : Nat}
    (hk : k ≤ mid.length) : ∃ t, Host.Core.run Sys2Proof.core k s = .next t ∧ NothingSent t ∧ t.params.wf = true ∧
      t.host = (mid.drop k).map HostAct.command ++ rest := by
  induction k generalizing s mid with
  | zero => exact ⟨s, rfl, hs, hwf, hh⟩
  | succ k ih =>
    cases mid with
    | nil => simp at hk
    | cons c mid =>
      obtain ⟨hc, hmid⟩ := List.forall_mem_cons.1 hmid
      obtain ⟨u, hu⟩ := step_total hwf
      have hhu : u.host = mid.map HostAct.command ++ rest := by
        rw [step_host hu, hh, List.map_cons, List.cons_append, List.tail_cons]
      obtain ⟨t, ht, htail⟩ := ih hmid (step_keeps_nothingSent hs hh hc hu) ((step_params hu).symm ▸ hwf) hhu
        (Nat.le_of_succ_le_succ hk)
      exact ⟨t, (run_succ hu).trans ht, htail⟩

/-- Settles O44: the run from the reset keeps `LAST_FREQ` at 0, which is no valid frequency, so the request is a new one. -/
theorem firstRequestAfterResetTransmits : Obligations.FirstRequestAfterResetTransmits :=
  fun s now mid inp rest hwf hh hmid hcmd hlo hhi hmod => by
    have hv : validFreq inp.din.toNat = true := (validFreq_iff _).2 ⟨hlo, hhi, hmod⟩
    have hreset := step_of_reset hwf hh
    have hmid' : ∀ c ∈ mid, NoValidRequest c := fun c hc hcmd => mt (validFreq_iff _).1 (hmid c hc hcmd)
    have hrun {k : Nat} (hk : k ≤ mid.length) :=
      run_keeps_nothingSent (rest := .command inp :: rest) hmid' (resetWith_nothingSent s.params now _) hwf rfl hk
    constructor
    · intro k hk
      obtain ⟨t, ht, hsent, -⟩ := hrun hk
      exact ⟨t, (run_succ hreset).trans ht, hsent.waveform, hsent.lastFreq, hsent.vtxCs, hsent.vtxClk, hsent.vtxData⟩
    · obtain ⟨t, ht, hsent, hwft, hht⟩ := hrun le_rfl
      rw [List.drop_length] at hht
      obtain ⟨u, hu, hlast, hwave, hresult⟩ := step_freqReq_of_valid hwft hht hcmd hv
      have hnew : inp.din ≠ t.lastFreq := hsent.lastFreq ▸ ne_zero_of_validFreq hv
      rw [if_neg hnew] at hwave hresult
      exact ⟨u, run_snoc ((run_succ hreset).trans ht) hu, hwave, hresult, hlast⟩

end Sys2Proof.Machine
end
